-- ==== Sys2Proof/Word.lean ====
section
/-! DEFINITION. The word types of the block: bytes (rule R10), the naturals that stand for timestamps in the state
and the span of an event (rule R16). -/

namespace Sys2Proof

/-- A byte value 0..255 (rule R10). -/
abbrev Byte := BitVec 8

/-- A timestamp as the state holds it. DESIGN CHOICE (log entry 1): State is plain data, so a timestamp in it is a natural
that names a timestamp; the spec's parameter `TS` (R7, R62, D3) is the argument `Parameters.TS` of Machine/Parameters.lean.
No meaning computes with a timestamp or compares two. -/
abbrev TS := Nat

/-- The inclusive start and end timestamps `t0`, `t1` of the current event (rules R11, R16). -/
structure Span where
  t0 : TS
  t1 : TS
  deriving DecidableEq, Repr

end Sys2Proof
end

