-- ==== Sys2Proof/Config.lean ====
section
/-! DEFINITION. What is fixed for the block: the byte values and constants of rule R7, the state codes of rule R21, the
format of the Message Registry ROM (rules R51 to R54), its only source-given contents (rule R56), the two values of
`MODULE_REV`, and the one free value of the model (log entry 6). -/

namespace Sys2Proof.Config

/-- `SYNC_A1` (R7). -/
abbrev syncA1 : Byte := 0xB5
/-- `SYNC_A2` (R7). -/
abbrev syncA2 : Byte := 0x62
/-- `DELIM_B_START`, the character `$` (R7). -/
abbrev delimBStart : Byte := 0x24
/-- `DELIM_B_END`, the character `*` (R7). -/
abbrev delimBEnd : Byte := 0x2A
/-- `TERM_CR` (R7). -/
abbrev termCr : Byte := 0x0D
/-- `TERM_LF` (R7). -/
abbrev termLf : Byte := 0x0A
/-- `PREAMBLE_C` (R7). -/
abbrev preambleC : Byte := 0xD3
/-- `CRC24Q_POLY`, bit 24 included (R7). -/
abbrev crc24qPoly : BitVec 25 := 0x1864CFB
/-- `CRC24Q_SEED` (R7). -/
abbrev crc24qSeed : BitVec 24 := 0
/-- `FLETCHER_SEED`, the same value for both sums (R7). -/
abbrev fletcherSeed : Byte := 0
/-- `XOR_SEED` (R7). -/
abbrev xorSeed : Byte := 0
/-- `INT_MAX_BYTES`, the widest integer field (R7). -/
abbrev intMaxBytes : Nat := 8

/-- FREE VALUE (log entry 6). The start time an annotation gets when a rule reads `f_t0` while it is `none`: rule R39
says that no run from reset does so, and no rule states a value there. It has no body, so nothing can be proved of it. -/
opaque unsetStart : Span → TS

end Sys2Proof.Config

namespace Sys2Proof

/-- `MODULE_REV`, the two values of the module-revision selector `cfg_rev` (R7, R34). -/
inductive ModuleRev where
  /-- `cfg_rev = 0` -/
  | rev0
  /-- `cfg_rev = 1` -/
  | rev1
  deriving DecidableEq, Repr

/-- The `end` of a field descriptor (R54). -/
inductive FieldEnd where
  | fixed (e : BitVec 16)
  | toEnd
  | fromCapture
  deriving DecidableEq, Repr

/-- The `kind` of a field descriptor (R54). -/
inductive FieldKind where
  | u
  | s
  | text
  | array
  | region
  deriving DecidableEq, Repr

/-- The display `base` of a field descriptor (R54). -/
inductive Base where
  | dec
  | hex
  deriving DecidableEq, Repr

/-- The revision guard `rev` of a field descriptor (R54). -/
inductive RevGuard where
  | any
  | rev0
  | rev1
  deriving DecidableEq, Repr

/-- A FieldDescriptor record of the ROM (R54); `stop` is the spec's `end`. -/
structure FieldDescriptor where
  lo      : BitVec 16
  stop    : FieldEnd
  name    : String
  kind    : FieldKind
  base    : Base
  lmin    : BitVec 16
  lmax    : BitVec 16
  rev     : RevGuard
  capture : Bool
  deriving DecidableEq, Repr

/-- An entry of the class table `CT` (R51). -/
structure ClassEntry where
  cls  : Byte
  name : String
  deriving DecidableEq, Repr

/-- An entry of the id table `IT` (R52). -/
structure IdEntry where
  cls  : Byte
  mid  : Byte
  name : String
  deriving DecidableEq, Repr

/-- An entry of the plan table `PT` (R53). -/
structure PlanEntry where
  cls  : Byte
  mid  : Byte
  plan : List FieldDescriptor
  deriving DecidableEq, Repr

/-- The Message Registry ROM, the block's one memory (R50): three ordered tables, read by key, never written. -/
structure Registry where
  ct : List ClassEntry
  it : List IdEntry
  pt : List PlanEntry
  deriving DecidableEq, Repr

/-- The only ROM contents the source gives (R56): class 0x05 "ACK" and id (0x05, 0x01) "ACK", with no field plan. -/
def Registry.ack : Registry where
  ct := [⟨0x05, "ACK"⟩]
  it := [⟨0x05, 0x01, "ACK"⟩]
  pt := []

end Sys2Proof

namespace Sys2Proof.St

/-! The 22 state codes of `st` (R21). Codes 22 to 31 are reserved. -/

abbrev idle : BitVec 5 := 0
abbrev seenPreambleA1 : BitVec 5 := 1
abbrev aClass : BitVec 5 := 2
abbrev aId : BitVec 5 := 3
abbrev aLen1 : BitVec 5 := 4
abbrev aLen2 : BitVec 5 := 5
abbrev aPayload : BitVec 5 := 6
abbrev aCka : BitVec 5 := 7
abbrev aCkb : BitVec 5 := 8
abbrev bBody : BitVec 5 := 9
abbrev bCk1 : BitVec 5 := 10
abbrev bCk2 : BitVec 5 := 11
abbrev bCr : BitVec 5 := 12
abbrev bLf : BitVec 5 := 13
abbrev cLen1 : BitVec 5 := 14
abbrev cLen2 : BitVec 5 := 15
abbrev cType1 : BitVec 5 := 16
abbrev cType2 : BitVec 5 := 17
abbrev cPayload : BitVec 5 := 18
abbrev cCrc1 : BitVec 5 := 19
abbrev cCrc2 : BitVec 5 := 20
abbrev cCrc3 : BitVec 5 := 21

end Sys2Proof.St
end

