-- ==== Sys2Proof/Machine/Checksum.lean ====
section
/-! DEFINITION. The three checksum engines as functions on values (rules R100 to R113). The operations on the registers
are in Machine/Ops.lean. -/

namespace Sys2Proof.Checksum

/-- `FoldFletcher(b)` on `(ck_a, ck_b)`; the second sum reads the first one's new value (R101). -/
def fletcherFold (p : Byte × Byte) (b : Byte) : Byte × Byte := (p.1 + b, p.2 + (p.1 + b))

/-- `fletcher(bs)` (R113). -/
def fletcher (bs : List Byte) : Byte × Byte := bs.foldl fletcherFold (Config.fletcherSeed, Config.fletcherSeed)

/-- `FoldXor(b)` on `nx` (R104). -/
def xorFold (nx b : Byte) : Byte := nx ^^^ b

/-- `xor8(bs)` (R113). -/
def xor8 (bs : List Byte) : Byte := bs.foldl xorFold Config.xorSeed

/-- One round of `FoldCrc`: shift left into 25 bits, XOR the polynomial if bit 24 is set, mask to 24 bits (R109). -/
def crcRound (c : BitVec 24) : BitVec 24 :=
  let d : BitVec 25 := c.zeroExtend 25 <<< 1
  (if d.getLsbD 24 then d ^^^ Config.crc24qPoly else d).truncate 24

/-- `n` rounds (R109). -/
def crcRounds : Nat → BitVec 24 → BitVec 24
  | 0, c => c
  | n + 1, c => crcRounds n (crcRound c)

/-- `FoldCrc(b)` on `crc` (R109). -/
def crcFold (crc : BitVec 24) (b : Byte) : BitVec 24 := crcRounds 8 (crc ^^^ (b.zeroExtend 24 <<< 16))

/-- `crc24q(bs)` (R113). -/
def crc24q (bs : List Byte) : BitVec 24 := bs.foldl crcFold Config.crc24qSeed

end Sys2Proof.Checksum
end

