-- ==== Sys2Proof/Machine/Operands.lean ====
section
/-! DEFINITION. Operand assembly (rule R82), the byte orders of rule R58, the ASCII-hex characters of rule R107, the CRC
slices of rule R110 and two's-complement conversion (rule R132), as functions on values. -/

namespace Sys2Proof.Operands

/-- `v[7:4]` of a byte (R10). -/
def hiNibble (b : Byte) : BitVec 4 := b.extractLsb' 4 4

/-- `v[3:0]` of a byte (R10). -/
def loNibble (b : Byte) : BitVec 4 := b.extractLsb' 0 4

/-- `HexChar(n)` (R107). -/
def hexChar (n : BitVec 4) : Byte :=
  if n.toNat < 10 then 0x30 + n.zeroExtend 8 else 0x30 + n.zeroExtend 8 + 7

/-- The first expected protocol B checksum character, `HexChar(nx[7:4])` (R82, R107). -/
def nmeaChar1 (nx : Byte) : Byte := hexChar (hiNibble nx)

/-- The second expected protocol B checksum character, `HexChar(nx[3:0])` (R82, R107). -/
def nmeaChar2 (nx : Byte) : Byte := hexChar (loNibble nx)

/-- `crc[23:16]` (R110). -/
def crcByte1 (crc : BitVec 24) : Byte := crc.extractLsb' 16 8

/-- `crc[15:8]` (R110). -/
def crcByte2 (crc : BitVec 24) : Byte := crc.extractLsb' 8 8

/-- `crc[7:0]` (R110). -/
def crcByte3 (crc : BitVec 24) : Byte := crc.extractLsb' 0 8

/-- `plen_A = lenb | (b << 8)` (R82, R175). -/
def lenA (lenb b : Byte) : BitVec 16 := lenb.zeroExtend 16 ||| (b.zeroExtend 16 <<< 8)

/-- `plen_C = (lenb[1:0] << 8) | b`, zero-extended to 16 bits (R82, R221). -/
def lenC (lenb b : Byte) : BitVec 16 := ((lenb.extractLsb' 0 2).zeroExtend 16 <<< 8) ||| b.zeroExtend 16

/-- `c_type` after the first type byte, `b << 4` (R222). -/
def typeHigh (b : Byte) : BitVec 12 := b.zeroExtend 12 <<< 4

/-- `c_type | b[7:4]` (R82, R223). -/
def typeLow (cType : BitVec 12) (b : Byte) : BitVec 12 := cType ||| (hiNibble b).zeroExtend 12

/-- `c_sub` at the second type byte, `b[3:0]` (R223). -/
def subHigh (b : Byte) : BitVec 12 := (loNibble b).zeroExtend 12

/-- `(c_sub << 8) | b` (R82, R224), in the register's 12 bits (log entry 9). -/
def subLow (cSub : BitVec 12) (b : Byte) : BitVec 12 := (cSub <<< 8) ||| b.zeroExtend 12

/-- `v | (b << (8 * j))`, the byte at offset `lo + j` of a little-endian integer (R58, R127), in the 64 bits of `f_val`. -/
def insertByte (v : BitVec 64) (j : Nat) (b : Byte) : BitVec 64 := v ||| (b.zeroExtend 64 <<< (8 * j))

/-- `Signed(v, w)` (R132). -/
def signed (v w : Nat) : Int :=
  if 2 ^ (8 * w - 1) ≤ v then (v : Int) - (2 : Int) ^ (8 * w) else (v : Int)

end Sys2Proof.Operands
end

