-- ==== Sys2Proof/Machine/Flags.lean ====
section
/-! DEFINITION. The block has no condition-code flags (rule R35). What other machines read from flags, the opcode table
reads from row conditions (rule R74): a comparison of the byte with a fixed value or a checksum register, or a test of
`sub_pend`, `st` or `rst`. This file holds those conditions. -/

namespace Sys2Proof

/-- The registers that row conditions read (R74, opcode_table.json `cond`). -/
structure CondRegs where
  ckA     : Byte
  ckB     : Byte
  nx      : Byte
  crc     : BitVec 24
  subPend : Bool
  deriving DecidableEq, Repr

/-- These registers as reset leaves them (R38). -/
def CondRegs.reset : CondRegs := ⟨0, 0, 0, 0, false⟩

/-- The conditions of opcode_table.json. -/
inductive Cond where
  /-- `rst = 1` -/
  | rstHigh
  /-- `true` -/
  | always
  /-- `b not in (0xB5, 0x24, 0xD3)` -/
  | notPreamble
  /-- `b != v` for a fixed byte -/
  | byteNe (v : Byte)
  /-- `b = ck_a` -/
  | eqCkA
  /-- `b != ck_a` -/
  | neCkA
  /-- `b = ck_b` -/
  | eqCkB
  /-- `b != ck_b` -/
  | neCkB
  /-- `b = HexChar(nx[7:4])` -/
  | eqNmea1
  /-- `b != HexChar(nx[7:4])` -/
  | neNmea1
  /-- `b = HexChar(nx[3:0])` -/
  | eqNmea2
  /-- `b != HexChar(nx[3:0])` -/
  | neNmea2
  /-- `b = crc[23:16]` -/
  | eqCrc1
  /-- `b != crc[23:16]` -/
  | neCrc1
  /-- `b = crc[15:8]` -/
  | eqCrc2
  /-- `b != crc[15:8]` -/
  | neCrc2
  /-- `b = crc[7:0]` -/
  | eqCrc3
  /-- `b != crc[7:0]` -/
  | neCrc3
  /-- `sub_pend = 1` -/
  | subPend1
  /-- `sub_pend = 0` -/
  | subPend0
  /-- `st != IDLE`, with the row's `state_code` 1..21 -/
  | stInFrame
  deriving DecidableEq, Repr

/-- Whether a condition holds, from `rst`, the state code and byte of the word, and the condition registers (R74). -/
def Cond.holds (c : Cond) (rst : Bool) (st : BitVec 5) (b : Byte) (r : CondRegs) : Bool :=
  match c with
  | .rstHigh => rst
  | .always => true
  | .notPreamble => b != Config.syncA1 && b != Config.delimBStart && b != Config.preambleC
  | .byteNe v => b != v
  | .eqCkA => b == r.ckA
  | .neCkA => b != r.ckA
  | .eqCkB => b == r.ckB
  | .neCkB => b != r.ckB
  | .eqNmea1 => b == Operands.nmeaChar1 r.nx
  | .neNmea1 => b != Operands.nmeaChar1 r.nx
  | .eqNmea2 => b == Operands.nmeaChar2 r.nx
  | .neNmea2 => b != Operands.nmeaChar2 r.nx
  | .eqCrc1 => b == Operands.crcByte1 r.crc
  | .neCrc1 => b != Operands.crcByte1 r.crc
  | .eqCrc2 => b == Operands.crcByte2 r.crc
  | .neCrc2 => b != Operands.crcByte2 r.crc
  | .eqCrc3 => b == Operands.crcByte3 r.crc
  | .neCrc3 => b != Operands.crcByte3 r.crc
  | .subPend1 => r.subPend
  | .subPend0 => !r.subPend
  | .stInFrame => st != St.idle && decide (st.toNat ≤ 21)

end Sys2Proof
end

