-- ==== Sys2Proof/Machine/State.lean ====
section
/-! DEFINITION. The state of the block as plain data: the DecoderState registers (rules R20 to R34), the registry ROM and
parameters the step reads (log entry 4), the input ports still to come (log entry 2), and the annotation port of the last
step (log entry 3); its value after reset (rule R38); and the reasons a step can stop (rule R258). -/

namespace Sys2Proof.Machine

/-- `which` of the label `VALID` (R80). -/
inductive CheckByte where
  | ckA
  | ckB
  | nmeaCk1
  | nmeaCk2
  | crc1
  | crc2
  | crc3
  deriving DecidableEq, Repr

/-- `which` of the label `TERM` (R80). -/
inductive Terminator where
  | cr
  | lf
  deriving DecidableEq, Repr

/-- The error causes (R250). -/
inductive ErrCode where
  | sync2
  | ckA
  | ckB
  | nmeaCk1
  | nmeaCk2
  | termCr
  | termLf
  | crc1
  | crc2
  | crc3
  | abort
  deriving DecidableEq, Repr

/-- The annotation labels (R80), tags 1 to 19 in order. -/
inductive Label where
  | markerA
  | sync2
  | cls (c : Byte) (name : Option String)
  | id (c i : Byte) (name : Option String)
  | length (n : BitVec 16)
  | fieldU (name : String) (v : BitVec 64) (base : Base) (w : Nat)
  | fieldS (name : String) (v : Int) (base : Base) (w : Nat)
  | text (name : String) (s : List Byte)
  | bytes (name : String) (s : List Byte)
  | region (name : String) (n : BitVec 16)
  | placeholder (k : BitVec 16) (b : Byte)
  | valid (which : CheckByte)
  | invalid (code : ErrCode)
  | sentence (s : List Byte)
  | term (which : Terminator)
  | markerC
  | type (t : BitVec 12)
  | subtype (s : BitVec 12)
  | hex (b : Byte)
  deriving DecidableEq, Repr

/-- An annotation with timestamps of type `T`: a label and its span (R16, R73). -/
structure AnnotationOf (T : Type) where
  label : Label
  t0    : T
  t1    : T
  deriving DecidableEq, Repr

/-- One sample of the input ports with timestamps of type `T` (R70): what the outside presents in one step. -/
structure PortsOf (T : Type) where
  rst     : Bool
  evValid : Bool
  evKind  : BitVec 2
  evByte  : Byte
  evT0    : T
  evT1    : T
  cfgRev  : ModuleRev
  deriving DecidableEq, Repr

/-- An annotation as the state holds it (log entry 1). -/
abbrev Annotation := AnnotationOf TS

/-- A sample of the input ports as the state holds it (log entry 1). -/
abbrev Ports := PortsOf TS

/-- The state. Field names follow 10_state.md with the underscores dropped (`ckA` is `ck_a`). -/
structure State where
  /-- `st` (R21) -/
  st       : BitVec 5
  /-- `ck_a` (R23) -/
  ckA      : Byte
  /-- `ck_b` (R23) -/
  ckB      : Byte
  /-- `nx` (R24) -/
  nx       : Byte
  /-- `crc` (R25) -/
  crc      : BitVec 24
  /-- `cls` (R26) -/
  cls      : Byte
  /-- `mid` (R26) -/
  mid      : Byte
  /-- `lenb` (R27) -/
  lenb     : Byte
  /-- `plen` (R28) -/
  plen     : BitVec 16
  /-- `k` (R29) -/
  k        : BitVec 16
  /-- `rem` (R29) -/
  rem      : BitVec 16
  /-- `f_val` (R30) -/
  fVal     : BitVec 64
  /-- `f_t0` (R30); `none` is the spec's own value -/
  fT0      : Option TS
  /-- `f_lo` (R30) -/
  fLo      : BitVec 16
  /-- `f_hi` (R30; log entry 7) -/
  fHi      : BitVec 16
  /-- `f_valid` (R30) -/
  fValid   : Bool
  /-- `f_buf` (R30, R31) -/
  fBuf     : List Byte
  /-- `f_cnt` (R30) -/
  fCnt     : BitVec 16
  /-- `dyn_len` (R32) -/
  dynLen   : BitVec 16
  /-- `dyn_valid` (R32) -/
  dynValid : Bool
  /-- `c_type` (R33) -/
  cType    : BitVec 12
  /-- `c_sub` (R33) -/
  cSub     : BitVec 12
  /-- `sub_pend` (R33) -/
  subPend  : Bool
  /-- the revision selection in force on `cfg_rev` (R34, R283; log entry 5) -/
  cfgRev   : ModuleRev
  /-- the Message Registry ROM (R50), the parameter `REGISTRY` -/
  rom      : Registry
  /-- the parameter `TEXT_CAP`, `none` for unbounded (R31) -/
  textCap  : Option Nat
  /-- the parameter `RTCM_SUBTYPE_TYPES` (R7, R223) -/
  subTypes : List (BitVec 12)
  /-- the input port samples still to be presented, one a step, oldest first (R62; log entry 2) -/
  inp      : List Ports
  /-- the annotation port after the last step, `none` for `ann_valid = 0` (R70, R73; log entry 3) -/
  ann      : Option Annotation
  deriving DecidableEq, Repr

/-- The one fault. -/
inductive Fault where
  /-- `ModelFault(ReservedState)` (R21, R258): raised by row selection when `st` holds a code 22..31. Unreachable from
  reset. Safe: the model stops. -/
  | reservedState
  deriving DecidableEq, Repr

/-- The refusals: what R258 and I17 say a model refuses. -/
inductive Refusal where
  /-- An instruction without a meaning yet, by its mnemonic; raised by `exec`'s arms only. Safe. -/
  | notModelled (mnemonic : String)
  /-- `ModelFault(PlanMidEntry)` (R126, R258): raised by A.PAYLOAD. Safe. -/
  | planMidEntry
  /-- `ModelFault(TextOverflow)` (R31, R128, R201, R258): raised by A.PAYLOAD and B.BODY with a finite `TEXT_CAP`. Safe. -/
  | textOverflow
  /-- `ModelFault(ReservedEventKind)` (R159, R258): raised by RESERVED_KIND. Safe. -/
  | reservedEventKind
  /-- `ModelFault(RomIllFormed)` (R55, R258): raised by the step, before any event, on a ROM that fails `WF`. Safe. -/
  | romIllFormed
  /-- A `cfg_rev` port that differs from the selection in force in a step without reset (R283, I17): raised by the step.
  Safe. -/
  | cfgRevChange
  deriving DecidableEq, Repr

/-- The state after reset (R38, R280), with the parameters at the values log entries 4 and 5 name, nothing presented on
the input ports and nothing on the annotation port. -/
def State.reset : State where
  st := St.idle
  ckA := 0
  ckB := 0
  nx := 0
  crc := 0
  cls := 0
  mid := 0
  lenb := 0
  plen := 0
  k := 0
  rem := 0
  fVal := 0
  fT0 := none
  fLo := 0
  fHi := 0
  fValid := false
  fBuf := []
  fCnt := 0
  dynLen := 0
  dynValid := false
  cType := 0
  cSub := 0
  subPend := false
  cfgRev := .rev0
  rom := Registry.ack
  textCap := none
  subTypes := []
  inp := []
  ann := none

end Sys2Proof.Machine
end

