-- ==== Sys2Proof/Machine/Ops.lean ====
section
/-! DEFINITION. The shared operations of the rules: the output port (`emit`, rule R12), `goto` (rule R11), the register
operations of the checksum engines (rules R100 to R110), the payload counters (rule R29), `ClearFrame` (rule R37), and the
two ways back to `IDLE`: `resync`, the block's exception entry (rule R251), and `finish` (rule R160). -/

namespace Sys2Proof.Machine

namespace State

/-- Drive `ann_valid = 0`: what a step that runs no `emit` leaves on the port (R73). Every meaning starts here. -/
def quiet (s : State) : State := { s with ann := none }

/-- `emit(L, ta, te)` (R12). -/
def emit (l : Label) (ta te : TS) (s : State) : State := { s with ann := some ⟨l, ta, te⟩ }

/-- `goto S` (R11). -/
def goto (code : BitVec 5) (s : State) : State := { s with st := code }

/-- `f_t0 <- some t0`. -/
def markStart (sp : Span) (s : State) : State := { s with fT0 := some sp.t0 }

/-- The value of `f_t0`; a free value when it is `none`, which no run from reset reads (R39; log entry 6). -/
def startTime (sp : Span) (s : State) : TS := s.fT0.getD (Config.unsetStart sp)

/-- `ResetFletcher()` (R100). -/
def resetFletcher (s : State) : State := { s with ckA := Config.fletcherSeed, ckB := Config.fletcherSeed }

/-- `FoldFletcher(b)` (R101). -/
def foldFletcher (b : Byte) (s : State) : State :=
  { s with ckA := (Checksum.fletcherFold (s.ckA, s.ckB) b).1, ckB := (Checksum.fletcherFold (s.ckA, s.ckB) b).2 }

/-- `FletcherRead()` (R102). -/
def fletcherRead (s : State) : Byte × Byte := (s.ckA, s.ckB)

/-- `ResetXor()` (R103). -/
def resetXor (s : State) : State := { s with nx := Config.xorSeed }

/-- `FoldXor(b)` (R104). -/
def foldXor (b : Byte) (s : State) : State := { s with nx := Checksum.xorFold s.nx b }

/-- `XorRead()` (R105). -/
def xorRead (s : State) : Byte := s.nx

/-- `ResetCrc()` (R108). -/
def resetCrc (s : State) : State := { s with crc := Config.crc24qSeed }

/-- `FoldCrc(b)` (R109). -/
def foldCrc (b : Byte) (s : State) : State := { s with crc := Checksum.crcFold s.crc b }

/-- `CrcRead()` (R110). -/
def crcRead (s : State) : BitVec 24 := s.crc

/-- `plen <- n; k <- 0; rem <- plen` (R175, R221). -/
def beginPayload (n : BitVec 16) (s : State) : State := { s with plen := n, k := 0, rem := n }

/-- `k <- k + 1; rem <- rem - 1` (R29), in 16 bits (log entry 9). -/
def countPayload (s : State) : State := { s with k := s.k + 1, rem := s.rem - 1 }

/-- `ClearFrame()` (R37): every per-frame register to its reset value; `st` is not written. -/
def clearFrame (s : State) : State :=
  { s with
    ckA := 0, ckB := 0, nx := 0, crc := 0, cls := 0, mid := 0, lenb := 0, plen := 0, k := 0, rem := 0,
    fVal := 0, fT0 := none, fLo := 0, fHi := 0, fValid := false, fBuf := [], fCnt := 0,
    dynLen := 0, dynValid := false, cType := 0, cSub := 0, subPend := false }

/-- `resync(code)` (R251): the entry of the block's error handling. Nothing is saved and there is no handler (R254). -/
def resync (code : ErrCode) (sp : Span) (s : State) : State :=
  ((s.emit (.invalid code) sp.t0 sp.t1).clearFrame).goto St.idle

/-- `finish()` (R160): successful completion of a frame, after the completing rule's `emit`. -/
def finish (s : State) : State := s.clearFrame.goto St.idle

/-- Whether an append finds `f_buf` full: `|f_buf| = TEXT_CAP` (R31, R128, R201); never when it is unbounded. -/
def bufFull (s : State) : Bool := s.textCap == some s.fBuf.length

/-- `f_buf <- f_buf ++ [b]`. -/
def append (b : Byte) (s : State) : State := { s with fBuf := s.fBuf ++ [b] }

/-- The condition registers that row selection reads (R74). -/
def condRegs (s : State) : CondRegs := ⟨s.ckA, s.ckB, s.nx, s.crc, s.subPend⟩

end State

end Sys2Proof.Machine
end

