-- ==== Sys2Proof/Machine/Multiplexer.lean ====
section
/-! DEFINITION. The meanings of RESET, the `IDLE` rows, the ABORT rows and the reserved kinds (rules R151 to R159, R280). -/

namespace Sys2Proof.Machine

/-- RESET (R280): `ClearFrame()`, `st <- IDLE`, no annotation; the one step at which the `cfg_rev` port takes effect
(R34, R280, R283; log entry 5). -/
def execReset (rev : ModuleRev) (s : State) : Host.Outcome State Fault Refusal :=
  .next { s.quiet.clearFrame.goto St.idle with cfgRev := rev }

/-- IDLE.PREAMBLE_A (R151). -/
def execIdlePreambleA (sp : Span) (s : State) : Host.Outcome State Fault Refusal :=
  .next ((s.emit .markerA sp.t0 sp.t1).goto St.seenPreambleA1)

/-- IDLE.DELIM_B (R152). -/
def execIdleDelimB (sp : Span) (s : State) : Host.Outcome State Fault Refusal :=
  .next ({ s.quiet.resetXor with fBuf := [] }.markStart sp |>.goto St.bBody)

/-- IDLE.PREAMBLE_C (R153). -/
def execIdlePreambleC (sp : Span) (s : State) : Host.Outcome State Fault Refusal :=
  .next (((s.resetCrc.foldCrc Config.preambleC).emit .markerC sp.t0 sp.t1).goto St.cLen1)

/-- IDLE.NOISE (R154). -/
def execIdleNoise (s : State) : Host.Outcome State Fault Refusal :=
  .next s.quiet

/-- ABORT.IDLE (R157). -/
def execAbortIdle (s : State) : Host.Outcome State Fault Refusal :=
  .next s.quiet

/-- ABORT.FRAME (R158). -/
def execAbortFrame (sp : Span) (s : State) : Host.Outcome State Fault Refusal :=
  .next (s.resync .abort sp)

/-- RESERVED_KIND (R159): `ModelFault(ReservedEventKind)`, no state change, no annotation. -/
def execReservedKind (_s : State) : Host.Outcome State Fault Refusal :=
  .refused .reservedEventKind

end Sys2Proof.Machine
end

