-- ==== Sys2Proof/Machine/Rom.lean ====
section
/-! DEFINITION. The read ports of the registry ROM (rules R51 to R53, R57) and its well-formedness `WF` (rule R55). The ROM
is the block's one memory and no operation writes it (rule R50). -/

namespace Sys2Proof

namespace Registry

/-- `RomClass(c)`: the name of the first `CT` entry of the class (R51). -/
def romClass (g : Registry) (c : Byte) : Option String :=
  (g.ct.find? (fun e => e.cls == c)).map (·.name)

/-- `RomId(c, i)`: the name of the first `IT` entry of the pair (R52). -/
def romId (g : Registry) (c i : Byte) : Option String :=
  (g.it.find? (fun e => e.cls == c && e.mid == i)).map (·.name)

/-- `RomPlan(c, i)`: the plan of the first `PT` entry of the pair, else the empty list (R53). -/
def romPlan (g : Registry) (c i : Byte) : List FieldDescriptor :=
  match g.pt.find? (fun e => e.cls == c && e.mid == i) with
  | some e => e.plan
  | none => []

/-- `RomClassByName(n)`: the class of the first `CT` entry named `n` (R57). -/
def romClassByName (g : Registry) (n : String) : Option Byte :=
  (g.ct.find? (fun e => e.name == n)).map (·.cls)

/-- `RomIdByName(n)`: the pair of the first `IT` entry named `n` (R57). -/
def romIdByName (g : Registry) (n : String) : Option (Byte × Byte) :=
  (g.it.find? (fun e => e.name == n)).map (fun e => (e.cls, e.mid))

end Registry

namespace FieldDescriptor

/-- `wf_range` (R55). -/
def wfRange (d : FieldDescriptor) : Bool :=
  match d.stop with
  | .fixed e => decide (d.lo.toNat ≤ e.toNat)
  | .toEnd | .fromCapture => true

/-- `wf_int_width` (R55): kinds U and S have a fixed end and a width of 1 to 8 bytes. -/
def wfIntWidth (d : FieldDescriptor) : Bool :=
  match d.kind with
  | .u | .s =>
    match d.stop with
    | .fixed e => decide (d.lo.toNat ≤ e.toNat ∧ e.toNat - d.lo.toNat + 1 ≤ Config.intMaxBytes)
    | .toEnd | .fromCapture => false
  | .text | .array | .region => true

/-- `wf_capture` (R55): a capture is an unsigned field of at most 2 bytes with a fixed end. -/
def wfCapture (d : FieldDescriptor) : Bool :=
  !d.capture ||
    (d.kind == .u &&
      match d.stop with
      | .fixed e => decide (e.toNat + 1 ≤ d.lo.toNat + 2)
      | .toEnd | .fromCapture => false)

/-- `wf_dyn` (R55): only TEXT, ARRAY and REGION end at a captured length. -/
def wfDyn (d : FieldDescriptor) : Bool :=
  match d.stop with
  | .fromCapture =>
    match d.kind with
    | .text | .array | .region => true
    | .u | .s => false
  | .fixed _ | .toEnd => true

/-- `wf_guard` (R55). -/
def wfGuard (d : FieldDescriptor) : Bool := decide (d.lmin.toNat ≤ d.lmax.toNat)

/-- `wf_names` for a descriptor (R55). -/
def wfName (d : FieldDescriptor) : Bool := d.name != ""

/-- Every check of R55 that concerns one descriptor. -/
def wf (d : FieldDescriptor) : Bool :=
  d.wfRange && d.wfIntWidth && d.wfCapture && d.wfDyn && d.wfGuard && d.wfName

end FieldDescriptor

/-- `WF(REGISTRY)` (R55): every descriptor passes its checks and every name of the tables is non-empty. -/
def Registry.wf (g : Registry) : Bool :=
  g.ct.all (fun e => e.name != "") && g.it.all (fun e => e.name != "") && g.pt.all (fun e => e.plan.all FieldDescriptor.wf)

end Sys2Proof
end

