-- ==== Sys2Proof/Machine/Extractor.lean ====
section
/-! DEFINITION. The field extractor for protocol A payload bytes (rules R120 to R136). -/

namespace Sys2Proof.Machine

/-- `End(d)` in naturals (R121); `none` where it is undefined. `ToEnd` with `plen = 0` ends before offset 0, so it is
`none` too (log entry 8). -/
def endOf (d : FieldDescriptor) (s : State) : Option Nat :=
  match d.stop with
  | .fixed e => some e.toNat
  | .toEnd => if s.plen.toNat = 0 then none else some (s.plen.toNat - 1)
  | .fromCapture =>
    if s.dynValid && decide (1 ≤ s.dynLen.toNat) then some (d.lo.toNat + s.dynLen.toNat - 1) else none

/-- The declared-length guard (R122). -/
def lengthGuard (d : FieldDescriptor) (s : State) : Bool :=
  decide (d.lmin.toNat ≤ s.plen.toNat) && decide (s.plen.toNat ≤ d.lmax.toNat)

/-- The revision guard (R122). -/
def revGuard (d : FieldDescriptor) (s : State) : Bool :=
  match d.rev with
  | .any => true
  | .rev0 => s.cfgRev == .rev0
  | .rev1 => s.cfgRev == .rev1

/-- `End(d)` when `Applicable(d)` holds, `none` when it does not (R122). -/
def covers (d : FieldDescriptor) (s : State) : Option Nat :=
  match endOf d s with
  | none => none
  | some e =>
    if lengthGuard d s && revGuard d s && decide (d.lo.toNat ≤ s.k.toNat) && decide (s.k.toNat ≤ e) then some e else none

/-- The first applicable descriptor of a plan, with its end (R123). -/
def firstApplicable (plan : List FieldDescriptor) (s : State) : Option (FieldDescriptor × Nat) :=
  plan.findSome? (fun d => (covers d s).map (fun e => (d, e)))

/-- `d*` for the byte at offset `k` of the frame in flight, with `End(d*)` (R120, R123). -/
def selectField (s : State) : Option (FieldDescriptor × Nat) := firstApplicable (s.rom.romPlan s.cls s.mid) s

/-- `Placeholder` (R124). -/
def placeholder (b : Byte) (sp : Span) (s : State) : State := s.emit (.placeholder s.k b) sp.t0 sp.t1

/-- `StartBuild` (R125); `f_hi` keeps the 16 bits of `End(d*)` (log entry 7). -/
def startBuild (d : FieldDescriptor) (e : Nat) (sp : Span) (s : State) : State :=
  { s with
    fVal := 0, fBuf := [], fCnt := 0, fT0 := some sp.t0, fLo := d.lo, fHi := BitVec.ofNat 16 e, fValid := true }

/-- The test of `ContinueCheck` (R126), in the 16 bits of `f_hi` (log entry 7). -/
def continues (d : FieldDescriptor) (e : Nat) (s : State) : Bool :=
  s.fValid && s.fLo == d.lo && s.fHi == BitVec.ofNat 16 e

/-- `StartBuild` at the descriptor's first byte, else `ContinueCheck` (R133). -/
def openBuild (d : FieldDescriptor) (e : Nat) (sp : Span) (s : State) : Except Refusal State :=
  if s.k = d.lo then .ok (startBuild d e sp s)
  else if continues d e s then .ok s
  else .error .planMidEntry

/-- `AccumulateInt` (R127). -/
def accumulateInt (d : FieldDescriptor) (b : Byte) (s : State) : State :=
  { s with fVal := Operands.insertByte s.fVal (s.k.toNat - d.lo.toNat) b }

/-- `AccumulateBytes` (R128). -/
def accumulateBytes (b : Byte) (s : State) : Except Refusal State :=
  if s.bufFull then .error .textOverflow else .ok { s.append b with fCnt := s.fCnt + 1 }

/-- `AccumulateRegion` (R129). -/
def accumulateRegion (s : State) : State := { s with fCnt := s.fCnt + 1 }

/-- The accumulate rule of the descriptor's kind (R133). -/
def accumulate (d : FieldDescriptor) (b : Byte) (s : State) : Except Refusal State :=
  match d.kind with
  | .u | .s => .ok (accumulateInt d b s)
  | .text | .array => accumulateBytes b s
  | .region => .ok (accumulateRegion s)

/-- The label of a completed field (R130). -/
def fieldLabel (d : FieldDescriptor) (e : Nat) (s : State) : Label :=
  let w := e - d.lo.toNat + 1
  match d.kind with
  | .u => .fieldU d.name s.fVal d.base w
  | .s => .fieldS d.name (Operands.signed s.fVal.toNat w) d.base w
  | .text => .text d.name s.fBuf
  | .array => .bytes d.name s.fBuf
  | .region => .region d.name s.fCnt

/-- `dyn_len <- f_val[15:0]; dyn_valid <- 1` (R130). -/
def captureLength (s : State) : State := { s with dynLen := s.fVal.truncate 16, dynValid := true }

/-- `Complete` (R130). -/
def complete (d : FieldDescriptor) (e : Nat) (sp : Span) (s : State) : State :=
  let s1 := s.emit (fieldLabel d e s) (s.startTime sp) sp.t1
  let s2 := if d.capture then captureLength s1 else s1
  { s2 with fValid := false }

/-- `Extract(b, t0, t1)` (R133). -/
def extract (b : Byte) (sp : Span) (s : State) : Except Refusal State :=
  match selectField s with
  | none => .ok (placeholder b sp s)
  | some (d, e) =>
    match openBuild d e sp s with
    | .error r => .error r
    | .ok s1 =>
      match accumulate d b s1 with
      | .error r => .error r
      | .ok s2 => .ok (if s2.k.toNat = e then complete d e sp s2 else s2)

end Sys2Proof.Machine
end

