-- ==== Sys2Proof/Machine/ProtocolA.lean ====
section
/-! DEFINITION. The meanings of the protocol A (UBX) rows (rules R170 to R180). -/

namespace Sys2Proof.Machine

/-- A.SYNC2_OK (R170). -/
def execASync2Ok (sp : Span) (s : State) : Host.Outcome State Fault Refusal :=
  .next ((s.emit .sync2 sp.t0 sp.t1).goto St.aClass)

/-- A.SYNC2_BAD (R171). -/
def execASync2Bad (sp : Span) (s : State) : Host.Outcome State Fault Refusal :=
  .next (s.resync .sync2 sp)

/-- A.CLASS (R172). -/
def execAClass (b : Byte) (sp : Span) (s : State) : Host.Outcome State Fault Refusal :=
  let s1 := s.resetFletcher.foldFletcher b
  .next (({ s1 with cls := b }.emit (.cls b (s.rom.romClass b)) sp.t0 sp.t1).goto St.aId)

/-- A.ID (R173). -/
def execAId (b : Byte) (sp : Span) (s : State) : Host.Outcome State Fault Refusal :=
  let s1 := s.foldFletcher b
  .next (({ s1 with mid := b }.emit (.id s.cls b (s.rom.romId s.cls b)) sp.t0 sp.t1).goto St.aLen1)

/-- A.LEN1 (R174). -/
def execALen1 (b : Byte) (sp : Span) (s : State) : Host.Outcome State Fault Refusal :=
  .next (({ s.quiet.foldFletcher b with lenb := b }.markStart sp).goto St.aLen2)

/-- A.LEN2 (R175). -/
def execALen2 (b : Byte) (sp : Span) (s : State) : Host.Outcome State Fault Refusal :=
  let n := Operands.lenA s.lenb b
  let s1 := ((s.foldFletcher b).beginPayload n).emit (.length n) (s.startTime sp) sp.t1
  .next (s1.goto (if n = 0 then St.aCka else St.aPayload))

/-- A.PAYLOAD (R176). -/
def execAPayload (b : Byte) (sp : Span) (s : State) : Host.Outcome State Fault Refusal :=
  match extract b sp (s.quiet.foldFletcher b) with
  | .error r => .refused r
  | .ok s1 =>
    let s2 := s1.countPayload
    .next (if s2.rem = 0 then s2.goto St.aCka else s2)

/-- A.CKA_OK (R177). -/
def execACkaOk (sp : Span) (s : State) : Host.Outcome State Fault Refusal :=
  .next ((s.emit (.valid .ckA) sp.t0 sp.t1).goto St.aCkb)

/-- A.CKA_BAD (R178). -/
def execACkaBad (sp : Span) (s : State) : Host.Outcome State Fault Refusal :=
  .next (s.resync .ckA sp)

/-- A.CKB_OK (R179). -/
def execACkbOk (sp : Span) (s : State) : Host.Outcome State Fault Refusal :=
  .next (s.emit (.valid .ckB) sp.t0 sp.t1).finish

/-- A.CKB_BAD (R180). -/
def execACkbBad (sp : Span) (s : State) : Host.Outcome State Fault Refusal :=
  .next (s.resync .ckB sp)

end Sys2Proof.Machine
end

