-- ==== Sys2Proof/Machine/ProtocolB.lean ====
section
/-! DEFINITION. The meanings of the protocol B (NMEA) rows (rules R200 to R209). -/

namespace Sys2Proof.Machine

/-- B.END_DELIM (R200). -/
def execBEndDelim (sp : Span) (s : State) : Host.Outcome State Fault Refusal :=
  .next ((s.emit (.sentence s.fBuf) (s.startTime sp) sp.t1).goto St.bCk1)

/-- B.BODY (R201). -/
def execBBody (b : Byte) (s : State) : Host.Outcome State Fault Refusal :=
  let s1 := s.quiet.foldXor b
  if s1.bufFull then .refused .textOverflow else .next (s1.append b)

/-- B.CK1_OK (R202). -/
def execBCk1Ok (sp : Span) (s : State) : Host.Outcome State Fault Refusal :=
  .next ((s.emit (.valid .nmeaCk1) sp.t0 sp.t1).goto St.bCk2)

/-- B.CK1_BAD (R203). -/
def execBCk1Bad (sp : Span) (s : State) : Host.Outcome State Fault Refusal :=
  .next (s.resync .nmeaCk1 sp)

/-- B.CK2_OK (R204). -/
def execBCk2Ok (sp : Span) (s : State) : Host.Outcome State Fault Refusal :=
  .next ((s.emit (.valid .nmeaCk2) sp.t0 sp.t1).goto St.bCr)

/-- B.CK2_BAD (R205). -/
def execBCk2Bad (sp : Span) (s : State) : Host.Outcome State Fault Refusal :=
  .next (s.resync .nmeaCk2 sp)

/-- B.CR_OK (R206). -/
def execBCrOk (sp : Span) (s : State) : Host.Outcome State Fault Refusal :=
  .next ((s.emit (.term .cr) sp.t0 sp.t1).goto St.bLf)

/-- B.CR_BAD (R207). -/
def execBCrBad (sp : Span) (s : State) : Host.Outcome State Fault Refusal :=
  .next (s.resync .termCr sp)

/-- B.LF_OK (R208). -/
def execBLfOk (sp : Span) (s : State) : Host.Outcome State Fault Refusal :=
  .next (s.emit (.term .lf) sp.t0 sp.t1).finish

/-- B.LF_BAD (R209). -/
def execBLfBad (sp : Span) (s : State) : Host.Outcome State Fault Refusal :=
  .next (s.resync .termLf sp)

end Sys2Proof.Machine
end

