-- ==== Sys2Proof/Machine/ProtocolC.lean ====
section
/-! DEFINITION. The meanings of the protocol C (RTCM3) rows (rules R220 to R231). -/

namespace Sys2Proof.Machine

/-- C.LEN1 (R220). -/
def execCLen1 (b : Byte) (sp : Span) (s : State) : Host.Outcome State Fault Refusal :=
  .next (({ s.quiet.foldCrc b with lenb := b }.markStart sp).goto St.cLen2)

/-- C.LEN2 (R221). -/
def execCLen2 (b : Byte) (sp : Span) (s : State) : Host.Outcome State Fault Refusal :=
  let n := Operands.lenC s.lenb b
  let s1 := ((s.foldCrc b).beginPayload n).emit (.length n) (s.startTime sp) sp.t1
  .next (s1.goto (if n = 0 then St.cCrc1 else St.cType1))

/-- C.TYPE1 (R222). -/
def execCType1 (b : Byte) (sp : Span) (s : State) : Host.Outcome State Fault Refusal :=
  let s1 := { s.quiet.foldCrc b with cType := Operands.typeHigh b }.countPayload
  .next (if s1.rem = 0 then (s1.emit (.hex b) sp.t0 sp.t1).goto St.cCrc1 else (s1.markStart sp).goto St.cType2)

/-- C.TYPE2 (R223). A type without a subtype does not write `sub_pend`, so C_PAYLOAD reads the 0 that `ClearFrame` or reset
left: R223 is followed where R39 counts `sub_pend` among the registers written before they are read (log entry 19). -/
def execCType2 (b : Byte) (sp : Span) (s : State) : Host.Outcome State Fault Refusal :=
  let t := Operands.typeLow s.cType b
  let s1 := ({ s.foldCrc b with cType := t }.emit (.type t) (s.startTime sp) sp.t1).countPayload
  let s2 :=
    if s1.subTypes.contains t && decide (1 ≤ s1.rem.toNat) then
      { s1 with cSub := Operands.subHigh b, subPend := true }.markStart sp
    else s1
  .next (s2.goto (if s2.rem = 0 then St.cCrc1 else St.cPayload))

/-- C.SUBTYPE (R224). -/
def execCSubtype (b : Byte) (sp : Span) (s : State) : Host.Outcome State Fault Refusal :=
  let v := Operands.subLow s.cSub b
  let s1 := ({ s.foldCrc b with cSub := v, subPend := false }.emit (.subtype v) (s.startTime sp) sp.t1).countPayload
  .next (if s1.rem = 0 then s1.goto St.cCrc1 else s1)

/-- C.PAYLOAD (R225). -/
def execCPayload (b : Byte) (sp : Span) (s : State) : Host.Outcome State Fault Refusal :=
  let s1 := ((s.foldCrc b).emit (.hex b) sp.t0 sp.t1).countPayload
  .next (if s1.rem = 0 then s1.goto St.cCrc1 else s1)

/-- C.CRC1_OK (R226). -/
def execCCrc1Ok (sp : Span) (s : State) : Host.Outcome State Fault Refusal :=
  .next ((s.emit (.valid .crc1) sp.t0 sp.t1).goto St.cCrc2)

/-- C.CRC1_BAD (R227). -/
def execCCrc1Bad (sp : Span) (s : State) : Host.Outcome State Fault Refusal :=
  .next (s.resync .crc1 sp)

/-- C.CRC2_OK (R228). -/
def execCCrc2Ok (sp : Span) (s : State) : Host.Outcome State Fault Refusal :=
  .next ((s.emit (.valid .crc2) sp.t0 sp.t1).goto St.cCrc3)

/-- C.CRC2_BAD (R229). -/
def execCCrc2Bad (sp : Span) (s : State) : Host.Outcome State Fault Refusal :=
  .next (s.resync .crc2 sp)

/-- C.CRC3_OK (R230). -/
def execCCrc3Ok (sp : Span) (s : State) : Host.Outcome State Fault Refusal :=
  .next (s.emit (.valid .crc3) sp.t0 sp.t1).finish

/-- C.CRC3_BAD (R231). -/
def execCCrc3Bad (sp : Span) (s : State) : Host.Outcome State Fault Refusal :=
  .next (s.resync .crc3 sp)

end Sys2Proof.Machine
end

