-- ==== Sys2Proof/Syntax.lean ====
section
/-! DEFINITION. The instruction set as syntax: one constructor per row of spec/opcode_table.json, in the table's order.
An instruction is an event in a state (rule R74): its operands are the event's byte `b` and span `t0`, `t1` (rule R11).
A row whose match fixes the byte has no byte operand. -/

namespace Sys2Proof

/-- The rows of the opcode table (R74, R75). -/
inductive Instr where
  /-- RESET (R280): `rst = 1` with the value on the `cfg_rev` port -/
  | reset (rev : ModuleRev)
  /-- IDLE.PREAMBLE_A (R151): `BYTE`, `st = IDLE`, byte 0xB5 -/
  | idlePreambleA (sp : Span)
  /-- IDLE.DELIM_B (R152): `BYTE`, `st = IDLE`, byte 0x24 -/
  | idleDelimB (sp : Span)
  /-- IDLE.PREAMBLE_C (R153): `BYTE`, `st = IDLE`, byte 0xD3 -/
  | idlePreambleC (sp : Span)
  /-- IDLE.NOISE (R154): `BYTE`, `st = IDLE`, byte any, `b not in (0xB5, 0x24, 0xD3)` -/
  | idleNoise (b : Byte) (sp : Span)
  /-- A.SYNC2_OK (R170): `BYTE`, `st = SEEN_PREAMBLE_A1`, byte 0x62 -/
  | aSync2Ok (sp : Span)
  /-- A.SYNC2_BAD (R171): `BYTE`, `st = SEEN_PREAMBLE_A1`, byte any, `b != 0x62` -/
  | aSync2Bad (b : Byte) (sp : Span)
  /-- A.CLASS (R172): `BYTE`, `st = A_CLASS`, byte any -/
  | aClass (b : Byte) (sp : Span)
  /-- A.ID (R173): `BYTE`, `st = A_ID`, byte any -/
  | aId (b : Byte) (sp : Span)
  /-- A.LEN1 (R174): `BYTE`, `st = A_LEN1`, byte any -/
  | aLen1 (b : Byte) (sp : Span)
  /-- A.LEN2 (R175): `BYTE`, `st = A_LEN2`, byte any -/
  | aLen2 (b : Byte) (sp : Span)
  /-- A.PAYLOAD (R176): `BYTE`, `st = A_PAYLOAD`, byte any -/
  | aPayload (b : Byte) (sp : Span)
  /-- A.CKA_OK (R177): `BYTE`, `st = A_CKA`, byte any, `b = ck_a` -/
  | aCkaOk (b : Byte) (sp : Span)
  /-- A.CKA_BAD (R178): `BYTE`, `st = A_CKA`, byte any, `b != ck_a` -/
  | aCkaBad (b : Byte) (sp : Span)
  /-- A.CKB_OK (R179): `BYTE`, `st = A_CKB`, byte any, `b = ck_b` -/
  | aCkbOk (b : Byte) (sp : Span)
  /-- A.CKB_BAD (R180): `BYTE`, `st = A_CKB`, byte any, `b != ck_b` -/
  | aCkbBad (b : Byte) (sp : Span)
  /-- B.END_DELIM (R200): `BYTE`, `st = B_BODY`, byte 0x2A -/
  | bEndDelim (sp : Span)
  /-- B.BODY (R201): `BYTE`, `st = B_BODY`, byte any, `b != 0x2A` -/
  | bBody (b : Byte) (sp : Span)
  /-- B.CK1_OK (R202): `BYTE`, `st = B_CK1`, byte any, `b = HexChar(nx[7:4])` -/
  | bCk1Ok (b : Byte) (sp : Span)
  /-- B.CK1_BAD (R203): `BYTE`, `st = B_CK1`, byte any, `b != HexChar(nx[7:4])` -/
  | bCk1Bad (b : Byte) (sp : Span)
  /-- B.CK2_OK (R204): `BYTE`, `st = B_CK2`, byte any, `b = HexChar(nx[3:0])` -/
  | bCk2Ok (b : Byte) (sp : Span)
  /-- B.CK2_BAD (R205): `BYTE`, `st = B_CK2`, byte any, `b != HexChar(nx[3:0])` -/
  | bCk2Bad (b : Byte) (sp : Span)
  /-- B.CR_OK (R206): `BYTE`, `st = B_CR`, byte 0x0D -/
  | bCrOk (sp : Span)
  /-- B.CR_BAD (R207): `BYTE`, `st = B_CR`, byte any, `b != 0x0D` -/
  | bCrBad (b : Byte) (sp : Span)
  /-- B.LF_OK (R208): `BYTE`, `st = B_LF`, byte 0x0A -/
  | bLfOk (sp : Span)
  /-- B.LF_BAD (R209): `BYTE`, `st = B_LF`, byte any, `b != 0x0A` -/
  | bLfBad (b : Byte) (sp : Span)
  /-- C.LEN1 (R220): `BYTE`, `st = C_LEN1`, byte any -/
  | cLen1 (b : Byte) (sp : Span)
  /-- C.LEN2 (R221): `BYTE`, `st = C_LEN2`, byte any -/
  | cLen2 (b : Byte) (sp : Span)
  /-- C.TYPE1 (R222): `BYTE`, `st = C_TYPE1`, byte any -/
  | cType1 (b : Byte) (sp : Span)
  /-- C.TYPE2 (R223): `BYTE`, `st = C_TYPE2`, byte any -/
  | cType2 (b : Byte) (sp : Span)
  /-- C.SUBTYPE (R224): `BYTE`, `st = C_PAYLOAD`, byte any, `sub_pend = 1` -/
  | cSubtype (b : Byte) (sp : Span)
  /-- C.PAYLOAD (R225): `BYTE`, `st = C_PAYLOAD`, byte any, `sub_pend = 0` -/
  | cPayload (b : Byte) (sp : Span)
  /-- C.CRC1_OK (R226): `BYTE`, `st = C_CRC1`, byte any, `b = crc[23:16]` -/
  | cCrc1Ok (b : Byte) (sp : Span)
  /-- C.CRC1_BAD (R227): `BYTE`, `st = C_CRC1`, byte any, `b != crc[23:16]` -/
  | cCrc1Bad (b : Byte) (sp : Span)
  /-- C.CRC2_OK (R228): `BYTE`, `st = C_CRC2`, byte any, `b = crc[15:8]` -/
  | cCrc2Ok (b : Byte) (sp : Span)
  /-- C.CRC2_BAD (R229): `BYTE`, `st = C_CRC2`, byte any, `b != crc[15:8]` -/
  | cCrc2Bad (b : Byte) (sp : Span)
  /-- C.CRC3_OK (R230): `BYTE`, `st = C_CRC3`, byte any, `b = crc[7:0]` -/
  | cCrc3Ok (b : Byte) (sp : Span)
  /-- C.CRC3_BAD (R231): `BYTE`, `st = C_CRC3`, byte any, `b != crc[7:0]` -/
  | cCrc3Bad (b : Byte) (sp : Span)
  /-- ABORT.IDLE (R157): `ABORT`, `st = IDLE`, byte 0x00 (forced) -/
  | abortIdle (sp : Span)
  /-- ABORT.FRAME (R158): `ABORT` in the state with code `code` -/
  | abortFrame (code : BitVec 5) (sp : Span)
  /-- RESERVED_KIND (R159): `ev_kind` 0b10 or 0b11; `low` is W[14:0] -/
  | reservedKind (low : BitVec 15) (sp : Span)
  deriving DecidableEq, Repr

end Sys2Proof
end

