-- ==== Sys2Proof/Machine/Dispatch.lean ====
section
/-! DEFINITION. The dispatch from instructions to meanings: the selected rule runs once, and only that rule (rule R150). -/

namespace Sys2Proof.Machine

def exec (i : Instr) (s : State) : Host.Outcome State Fault Refusal :=
  match i with
  | .reset rev => Sys2Proof.Machine.execReset rev s
  | .idlePreambleA sp => Sys2Proof.Machine.execIdlePreambleA sp s
  | .idleDelimB sp => Sys2Proof.Machine.execIdleDelimB sp s
  | .idlePreambleC sp => Sys2Proof.Machine.execIdlePreambleC sp s
  | .idleNoise _ _ => Sys2Proof.Machine.execIdleNoise s
  | .aSync2Ok sp => Sys2Proof.Machine.execASync2Ok sp s
  | .aSync2Bad _ sp => Sys2Proof.Machine.execASync2Bad sp s
  | .aClass b sp => Sys2Proof.Machine.execAClass b sp s
  | .aId b sp => Sys2Proof.Machine.execAId b sp s
  | .aLen1 b sp => Sys2Proof.Machine.execALen1 b sp s
  | .aLen2 b sp => Sys2Proof.Machine.execALen2 b sp s
  | .aPayload b sp => Sys2Proof.Machine.execAPayload b sp s
  | .aCkaOk _ sp => Sys2Proof.Machine.execACkaOk sp s
  | .aCkaBad _ sp => Sys2Proof.Machine.execACkaBad sp s
  | .aCkbOk _ sp => Sys2Proof.Machine.execACkbOk sp s
  | .aCkbBad _ sp => Sys2Proof.Machine.execACkbBad sp s
  | .bEndDelim sp => Sys2Proof.Machine.execBEndDelim sp s
  | .bBody b _ => Sys2Proof.Machine.execBBody b s
  | .bCk1Ok _ sp => Sys2Proof.Machine.execBCk1Ok sp s
  | .bCk1Bad _ sp => Sys2Proof.Machine.execBCk1Bad sp s
  | .bCk2Ok _ sp => Sys2Proof.Machine.execBCk2Ok sp s
  | .bCk2Bad _ sp => Sys2Proof.Machine.execBCk2Bad sp s
  | .bCrOk sp => Sys2Proof.Machine.execBCrOk sp s
  | .bCrBad _ sp => Sys2Proof.Machine.execBCrBad sp s
  | .bLfOk sp => Sys2Proof.Machine.execBLfOk sp s
  | .bLfBad _ sp => Sys2Proof.Machine.execBLfBad sp s
  | .cLen1 b sp => Sys2Proof.Machine.execCLen1 b sp s
  | .cLen2 b sp => Sys2Proof.Machine.execCLen2 b sp s
  | .cType1 b sp => Sys2Proof.Machine.execCType1 b sp s
  | .cType2 b sp => Sys2Proof.Machine.execCType2 b sp s
  | .cSubtype b sp => Sys2Proof.Machine.execCSubtype b sp s
  | .cPayload b sp => Sys2Proof.Machine.execCPayload b sp s
  | .cCrc1Ok _ sp => Sys2Proof.Machine.execCCrc1Ok sp s
  | .cCrc1Bad _ sp => Sys2Proof.Machine.execCCrc1Bad sp s
  | .cCrc2Ok _ sp => Sys2Proof.Machine.execCCrc2Ok sp s
  | .cCrc2Bad _ sp => Sys2Proof.Machine.execCCrc2Bad sp s
  | .cCrc3Ok _ sp => Sys2Proof.Machine.execCCrc3Ok sp s
  | .cCrc3Bad _ sp => Sys2Proof.Machine.execCCrc3Bad sp s
  | .abortIdle _ => Sys2Proof.Machine.execAbortIdle s
  | .abortFrame _ sp => Sys2Proof.Machine.execAbortFrame sp s
  | .reservedKind _ _ => Sys2Proof.Machine.execReservedKind s

end Sys2Proof.Machine
end

