-- ==== Sys2Proof/WellFormed.lean ====
section
/-! DEFINITION. Which terms of `Instr` are instructions: the operand values that the row's own condition shuts out
(opcode_table.json `cond` of the rows with a fixed-byte complement, and the state codes of ABORT.FRAME). -/

namespace Sys2Proof

/-- The checks, by name. -/
inductive IllFormed where
  /-- IDLE.NOISE with one of the three preamble bytes (R154). -/
  | noiseByteIsPreamble
  /-- A.SYNC2_BAD with 0x62 (R171). -/
  | badSync2IsSync2
  /-- B.BODY with `*` (R201). -/
  | bodyByteIsDelimiter
  /-- B.CR_BAD with 0x0D (R207). -/
  | badCrIsCr
  /-- B.LF_BAD with 0x0A (R209). -/
  | badLfIsLf
  /-- ABORT.FRAME with the code of `IDLE` (R158). -/
  | abortFrameInIdle
  /-- ABORT.FRAME with a reserved state code 22..31 (R21; the row's `state_code` is 1..21). -/
  | abortFrameInReservedState
  /-- RESERVED_KIND with W[13] = 1; the block forms W with W[13] = 0 (R74, R85). -/
  | reservedKindBit13
  deriving DecidableEq, Repr

namespace Instr

/-- The first check an instruction fails, if any. -/
def check : Instr → Option IllFormed
  | .reset _ | .idlePreambleA _ | .idleDelimB _ | .idlePreambleC _ => none
  | .idleNoise b _ =>
    if b = Config.syncA1 ∨ b = Config.delimBStart ∨ b = Config.preambleC then some .noiseByteIsPreamble else none
  | .aSync2Ok _ => none
  | .aSync2Bad b _ => if b = Config.syncA2 then some .badSync2IsSync2 else none
  | .aClass _ _ | .aId _ _ | .aLen1 _ _ | .aLen2 _ _ | .aPayload _ _ => none
  | .aCkaOk _ _ | .aCkaBad _ _ | .aCkbOk _ _ | .aCkbBad _ _ => none
  | .bEndDelim _ => none
  | .bBody b _ => if b = Config.delimBEnd then some .bodyByteIsDelimiter else none
  | .bCk1Ok _ _ | .bCk1Bad _ _ | .bCk2Ok _ _ | .bCk2Bad _ _ => none
  | .bCrOk _ => none
  | .bCrBad b _ => if b = Config.termCr then some .badCrIsCr else none
  | .bLfOk _ => none
  | .bLfBad b _ => if b = Config.termLf then some .badLfIsLf else none
  | .cLen1 _ _ | .cLen2 _ _ | .cType1 _ _ | .cType2 _ _ | .cSubtype _ _ | .cPayload _ _ => none
  | .cCrc1Ok _ _ | .cCrc1Bad _ _ | .cCrc2Ok _ _ | .cCrc2Bad _ _ | .cCrc3Ok _ _ | .cCrc3Bad _ _ => none
  | .abortIdle _ => none
  | .abortFrame code _ =>
    if code = St.idle then some .abortFrameInIdle
    else if 21 < code.toNat then some .abortFrameInReservedState
    else none
  | .reservedKind low _ => if low.getLsbD 13 then some .reservedKindBit13 else none

/-- An instruction the block can select. -/
abbrev WellFormed (i : Instr) : Prop := i.check = none

end Instr

end Sys2Proof
end

