-- ==== Sys2Proof/Decode.lean ====
section
/-! DEFINITION. The decode word `W` (rule R74), the opcode table as rows of match, mask and condition tried first match,
the decoder, and the encoder written from the field layout of `W`. -/

namespace Sys2Proof

/-- Event kind `BYTE` (R71). -/
abbrev kindByte : BitVec 2 := 0b00
/-- Event kind `ABORT` (R71). -/
abbrev kindAbort : BitVec 2 := 0b01

/-- The layout of `W`: `W[15:14] = ev_kind`, `W[13] = 0`, `W[12:8] = st`, `W[7:0]` the byte (R74). -/
def packWord (kind : BitVec 2) (st : BitVec 5) (b : Byte) : BitVec 16 := kind ++ 0#1 ++ st ++ b

/-- The word the block forms from the event's kind and byte and from `st`: the byte field is 0x00 for `ABORT` (R74). For
the reserved kinds the spec fixes no byte field and the byte is kept (log entry 11). -/
def formWord (kind : BitVec 2) (st : BitVec 5) (b : Byte) : BitVec 16 :=
  packWord kind st (if kind = kindAbort then 0x00 else b)

/-- `W[12:8]` (R74). -/
def wordState (w : BitVec 16) : BitVec 5 := w.extractLsb' 8 5

/-- `W[7:0]` (R74). -/
def wordByte (w : BitVec 16) : Byte := w.extractLsb' 0 8

/-- What row selection reads of the ports: `rst`, the `cfg_rev` port, the decode word and the event's span. -/
structure EventWord where
  rst : Bool
  rev : ModuleRev
  w   : BitVec 16
  sp  : Span
  deriving DecidableEq, Repr

/-- A row of opcode_table.json: mnemonic, match, mask, condition, and the instruction it selects. -/
structure Row where
  mnemonic : String
  pat      : BitVec 16
  mask     : BitVec 16
  cond     : Cond
  build    : EventWord → Instr

/-- A row is selected when `(W & mask) = match` and its condition holds (R74). -/
def Row.selects (row : Row) (e : EventWord) (r : CondRegs) : Bool :=
  (e.w &&& row.mask) == row.pat && row.cond.holds e.rst (wordState e.w) (wordByte e.w) r

/-- The first row: RESET (R280). -/
def rowsReset : List Row := [
  ⟨"RESET", 0x0000, 0x0000, .rstHigh, fun e => .reset e.rev⟩]

/-- The rows of `IDLE` (R151 to R154). -/
def rowsIdle : List Row := [
  ⟨"IDLE.PREAMBLE_A", 0x00B5, 0xFFFF, .always, fun e => .idlePreambleA e.sp⟩,
  ⟨"IDLE.DELIM_B", 0x0024, 0xFFFF, .always, fun e => .idleDelimB e.sp⟩,
  ⟨"IDLE.PREAMBLE_C", 0x00D3, 0xFFFF, .always, fun e => .idlePreambleC e.sp⟩,
  ⟨"IDLE.NOISE", 0x0000, 0xFF00, .notPreamble, fun e => .idleNoise (wordByte e.w) e.sp⟩]

/-- The rows of protocol A (R170 to R180). -/
def rowsA : List Row := [
  ⟨"A.SYNC2_OK", 0x0162, 0xFFFF, .always, fun e => .aSync2Ok e.sp⟩,
  ⟨"A.SYNC2_BAD", 0x0100, 0xFF00, (.byteNe Config.syncA2), fun e => .aSync2Bad (wordByte e.w) e.sp⟩,
  ⟨"A.CLASS", 0x0200, 0xFF00, .always, fun e => .aClass (wordByte e.w) e.sp⟩,
  ⟨"A.ID", 0x0300, 0xFF00, .always, fun e => .aId (wordByte e.w) e.sp⟩,
  ⟨"A.LEN1", 0x0400, 0xFF00, .always, fun e => .aLen1 (wordByte e.w) e.sp⟩,
  ⟨"A.LEN2", 0x0500, 0xFF00, .always, fun e => .aLen2 (wordByte e.w) e.sp⟩,
  ⟨"A.PAYLOAD", 0x0600, 0xFF00, .always, fun e => .aPayload (wordByte e.w) e.sp⟩,
  ⟨"A.CKA_OK", 0x0700, 0xFF00, .eqCkA, fun e => .aCkaOk (wordByte e.w) e.sp⟩,
  ⟨"A.CKA_BAD", 0x0700, 0xFF00, .neCkA, fun e => .aCkaBad (wordByte e.w) e.sp⟩,
  ⟨"A.CKB_OK", 0x0800, 0xFF00, .eqCkB, fun e => .aCkbOk (wordByte e.w) e.sp⟩,
  ⟨"A.CKB_BAD", 0x0800, 0xFF00, .neCkB, fun e => .aCkbBad (wordByte e.w) e.sp⟩]

/-- The rows of protocol B (R200 to R209). -/
def rowsB : List Row := [
  ⟨"B.END_DELIM", 0x092A, 0xFFFF, .always, fun e => .bEndDelim e.sp⟩,
  ⟨"B.BODY", 0x0900, 0xFF00, (.byteNe Config.delimBEnd), fun e => .bBody (wordByte e.w) e.sp⟩,
  ⟨"B.CK1_OK", 0x0A00, 0xFF00, .eqNmea1, fun e => .bCk1Ok (wordByte e.w) e.sp⟩,
  ⟨"B.CK1_BAD", 0x0A00, 0xFF00, .neNmea1, fun e => .bCk1Bad (wordByte e.w) e.sp⟩,
  ⟨"B.CK2_OK", 0x0B00, 0xFF00, .eqNmea2, fun e => .bCk2Ok (wordByte e.w) e.sp⟩,
  ⟨"B.CK2_BAD", 0x0B00, 0xFF00, .neNmea2, fun e => .bCk2Bad (wordByte e.w) e.sp⟩,
  ⟨"B.CR_OK", 0x0C0D, 0xFFFF, .always, fun e => .bCrOk e.sp⟩,
  ⟨"B.CR_BAD", 0x0C00, 0xFF00, (.byteNe Config.termCr), fun e => .bCrBad (wordByte e.w) e.sp⟩,
  ⟨"B.LF_OK", 0x0D0A, 0xFFFF, .always, fun e => .bLfOk e.sp⟩,
  ⟨"B.LF_BAD", 0x0D00, 0xFF00, (.byteNe Config.termLf), fun e => .bLfBad (wordByte e.w) e.sp⟩]

/-- The rows of protocol C (R220 to R231). -/
def rowsC : List Row := [
  ⟨"C.LEN1", 0x0E00, 0xFF00, .always, fun e => .cLen1 (wordByte e.w) e.sp⟩,
  ⟨"C.LEN2", 0x0F00, 0xFF00, .always, fun e => .cLen2 (wordByte e.w) e.sp⟩,
  ⟨"C.TYPE1", 0x1000, 0xFF00, .always, fun e => .cType1 (wordByte e.w) e.sp⟩,
  ⟨"C.TYPE2", 0x1100, 0xFF00, .always, fun e => .cType2 (wordByte e.w) e.sp⟩,
  ⟨"C.SUBTYPE", 0x1200, 0xFF00, .subPend1, fun e => .cSubtype (wordByte e.w) e.sp⟩,
  ⟨"C.PAYLOAD", 0x1200, 0xFF00, .subPend0, fun e => .cPayload (wordByte e.w) e.sp⟩,
  ⟨"C.CRC1_OK", 0x1300, 0xFF00, .eqCrc1, fun e => .cCrc1Ok (wordByte e.w) e.sp⟩,
  ⟨"C.CRC1_BAD", 0x1300, 0xFF00, .neCrc1, fun e => .cCrc1Bad (wordByte e.w) e.sp⟩,
  ⟨"C.CRC2_OK", 0x1400, 0xFF00, .eqCrc2, fun e => .cCrc2Ok (wordByte e.w) e.sp⟩,
  ⟨"C.CRC2_BAD", 0x1400, 0xFF00, .neCrc2, fun e => .cCrc2Bad (wordByte e.w) e.sp⟩,
  ⟨"C.CRC3_OK", 0x1500, 0xFF00, .eqCrc3, fun e => .cCrc3Ok (wordByte e.w) e.sp⟩,
  ⟨"C.CRC3_BAD", 0x1500, 0xFF00, .neCrc3, fun e => .cCrc3Bad (wordByte e.w) e.sp⟩]

/-- The ABORT rows and the reserved kinds (R157 to R159). -/
def rowsOther : List Row := [
  ⟨"ABORT.IDLE", 0x4000, 0xFFFF, .always, fun e => .abortIdle e.sp⟩,
  ⟨"ABORT.FRAME", 0x4000, 0xE0FF, .stInFrame, fun e => .abortFrame (wordState e.w) e.sp⟩,
  ⟨"RESERVED_KIND", 0x8000, 0x8000, .always, fun e => .reservedKind (e.w.extractLsb' 0 15) e.sp⟩]

/-- The opcode table, in the table's order (R74). -/
def rows : List Row := rowsReset ++ rowsIdle ++ rowsA ++ rowsB ++ rowsC ++ rowsOther

/-- Why a word is no instruction. -/
inductive DecodeError where
  /-- `W[13]` is 1: the block never forms such a word (R74, R85). -/
  | bit13Set
  /-- No row is selected: a reserved state code 22..31 (R21), or an `ABORT` word with a byte field the block never forms. -/
  | noRow
  deriving DecidableEq, Repr

/-- The decoder: the first row whose match, mask and condition hold (R74, R150). -/
def decode (e : EventWord) (r : CondRegs) : Except DecodeError Instr :=
  if !e.rst && e.w.getLsbD 13 then .error .bit13Set
  else
    match rows.find? (fun row => row.selects e r) with
    | some row => .ok (row.build e)
    | none => .error .noRow

/-- The decode word of an instruction, from the field layout of R74 and the codes of R21 and R71. -/
def encodeWord : Instr → BitVec 16
  | .reset _ => 0x0000
  | .idlePreambleA _ => packWord kindByte St.idle Config.syncA1
  | .idleDelimB _ => packWord kindByte St.idle Config.delimBStart
  | .idlePreambleC _ => packWord kindByte St.idle Config.preambleC
  | .idleNoise b _ => packWord kindByte St.idle b
  | .aSync2Ok _ => packWord kindByte St.seenPreambleA1 Config.syncA2
  | .aSync2Bad b _ => packWord kindByte St.seenPreambleA1 b
  | .aClass b _ => packWord kindByte St.aClass b
  | .aId b _ => packWord kindByte St.aId b
  | .aLen1 b _ => packWord kindByte St.aLen1 b
  | .aLen2 b _ => packWord kindByte St.aLen2 b
  | .aPayload b _ => packWord kindByte St.aPayload b
  | .aCkaOk b _ => packWord kindByte St.aCka b
  | .aCkaBad b _ => packWord kindByte St.aCka b
  | .aCkbOk b _ => packWord kindByte St.aCkb b
  | .aCkbBad b _ => packWord kindByte St.aCkb b
  | .bEndDelim _ => packWord kindByte St.bBody Config.delimBEnd
  | .bBody b _ => packWord kindByte St.bBody b
  | .bCk1Ok b _ => packWord kindByte St.bCk1 b
  | .bCk1Bad b _ => packWord kindByte St.bCk1 b
  | .bCk2Ok b _ => packWord kindByte St.bCk2 b
  | .bCk2Bad b _ => packWord kindByte St.bCk2 b
  | .bCrOk _ => packWord kindByte St.bCr Config.termCr
  | .bCrBad b _ => packWord kindByte St.bCr b
  | .bLfOk _ => packWord kindByte St.bLf Config.termLf
  | .bLfBad b _ => packWord kindByte St.bLf b
  | .cLen1 b _ => packWord kindByte St.cLen1 b
  | .cLen2 b _ => packWord kindByte St.cLen2 b
  | .cType1 b _ => packWord kindByte St.cType1 b
  | .cType2 b _ => packWord kindByte St.cType2 b
  | .cSubtype b _ => packWord kindByte St.cPayload b
  | .cPayload b _ => packWord kindByte St.cPayload b
  | .cCrc1Ok b _ => packWord kindByte St.cCrc1 b
  | .cCrc1Bad b _ => packWord kindByte St.cCrc1 b
  | .cCrc2Ok b _ => packWord kindByte St.cCrc2 b
  | .cCrc2Bad b _ => packWord kindByte St.cCrc2 b
  | .cCrc3Ok b _ => packWord kindByte St.cCrc3 b
  | .cCrc3Bad b _ => packWord kindByte St.cCrc3 b
  | .abortIdle _ => packWord kindAbort St.idle 0x00
  | .abortFrame code _ => packWord kindAbort code 0x00
  | .reservedKind low _ => (1#1 ++ low : BitVec 16)

/-- The event's span, an operand of every row but RESET (R11); RESET ignores the event (R150). -/
def spanOf : Instr → Span
  | .reset _ => ⟨0, 0⟩
  | .idlePreambleA sp => sp
  | .idleDelimB sp => sp
  | .idlePreambleC sp => sp
  | .idleNoise _ sp => sp
  | .aSync2Ok sp => sp
  | .aSync2Bad _ sp => sp
  | .aClass _ sp => sp
  | .aId _ sp => sp
  | .aLen1 _ sp => sp
  | .aLen2 _ sp => sp
  | .aPayload _ sp => sp
  | .aCkaOk _ sp => sp
  | .aCkaBad _ sp => sp
  | .aCkbOk _ sp => sp
  | .aCkbBad _ sp => sp
  | .bEndDelim sp => sp
  | .bBody _ sp => sp
  | .bCk1Ok _ sp => sp
  | .bCk1Bad _ sp => sp
  | .bCk2Ok _ sp => sp
  | .bCk2Bad _ sp => sp
  | .bCrOk sp => sp
  | .bCrBad _ sp => sp
  | .bLfOk sp => sp
  | .bLfBad _ sp => sp
  | .cLen1 _ sp => sp
  | .cLen2 _ sp => sp
  | .cType1 _ sp => sp
  | .cType2 _ sp => sp
  | .cSubtype _ sp => sp
  | .cPayload _ sp => sp
  | .cCrc1Ok _ sp => sp
  | .cCrc1Bad _ sp => sp
  | .cCrc2Ok _ sp => sp
  | .cCrc2Bad _ sp => sp
  | .cCrc3Ok _ sp => sp
  | .cCrc3Bad _ sp => sp
  | .abortIdle sp => sp
  | .abortFrame _ sp => sp
  | .reservedKind _ sp => sp

/-- The `cfg_rev` port of a step with `rst = 1`; every other row is a step with `rst = 0`. -/
def resetOf : Instr → Option ModuleRev
  | .reset rev => some rev
  | .idlePreambleA _ | .idleDelimB _ | .idlePreambleC _ | .idleNoise _ _ | .aSync2Ok _ | .aSync2Bad _ _ | .aClass _ _ | .aId _ _
  | .aLen1 _ _ | .aLen2 _ _ | .aPayload _ _ | .aCkaOk _ _ | .aCkaBad _ _ | .aCkbOk _ _ | .aCkbBad _ _ | .bEndDelim _
  | .bBody _ _ | .bCk1Ok _ _ | .bCk1Bad _ _ | .bCk2Ok _ _ | .bCk2Bad _ _ | .bCrOk _ | .bCrBad _ _ | .bLfOk _
  | .bLfBad _ _ | .cLen1 _ _ | .cLen2 _ _ | .cType1 _ _ | .cType2 _ _ | .cSubtype _ _ | .cPayload _ _ | .cCrc1Ok _ _
  | .cCrc1Bad _ _ | .cCrc2Ok _ _ | .cCrc2Bad _ _ | .cCrc3Ok _ _ | .cCrc3Bad _ _ | .abortIdle _ | .abortFrame _ _ | .reservedKind _ _ => none

/-- The encoder: the ports that present an instruction. The `cfg_rev` port is an operand of RESET only. -/
def encode (i : Instr) : EventWord where
  rst := (resetOf i).isSome
  rev := (resetOf i).getD .rev0
  w := encodeWord i
  sp := spanOf i

/-- The decoder on a word numbered as spec/opcode_table.json numbers it. The table's 16 bits are `W`; RESET is the one
row that gives no bit of `W` (mask 0), so a word of fewer than 16 bits is RESET's. The timestamps and the `cfg_rev` port are
operand words of zeros, and the condition registers, which are no part of the word, are taken as reset leaves them
(log entry 12). -/
def decodeTableWord (nbits w : Nat) : Option Instr :=
  if nbits < 16 then some (.reset .rev0)
  else if 2 ^ 16 ≤ w then none
  else
    match decode ⟨false, .rev0, BitVec.ofNat 16 w, ⟨0, 0⟩⟩ CondRegs.reset with
    | .ok i => some i
    | .error _ => none

end Sys2Proof
end

