-- ==== Sys2Proof/Machine/Fetch.lean ====
section
/-! DEFINITION. What a step presents to the block and which instruction it selects (rules R70, R74, R150): the counterpart of
an instruction fetch. Machine/Step.lean only calls it. -/

namespace Sys2Proof.Machine

/-- What a step does, decided before any rule runs. -/
inductive Fetch where
  /-- the model stops with a fault -/
  | stop (f : Fault)
  /-- the model refuses the step -/
  | refuse (r : Refusal)
  /-- `ev_valid = 0` and `rst = 0`: nothing changes and nothing is emitted (R70, R150) -/
  | noEvent (s : State)
  /-- the selected row, and the state it runs on -/
  | run (i : Instr) (s : State)
  deriving DecidableEq, Repr

/-- The ports and the decode word of a presented sample (R74). -/
def eventWord (p : Ports) (s : State) : EventWord where
  rst := p.rst
  rev := p.cfgRev
  w := formWord p.evKind s.st p.evByte
  sp := ⟨p.evT0, p.evT1⟩

/-- One presented sample (R150). Reset first; a `cfg_rev` port that differs from the selection in force is refused in any
other step (R283, log entry 5); then no event; then row selection. No row is selected exactly when `st` holds a reserved
code (R21; log entry 10). -/
def present (p : Ports) (s : State) : Fetch :=
  if !p.rst && p.cfgRev != s.cfgRev then .refuse .cfgRevChange
  else if !p.rst && !p.evValid then .noEvent s
  else
    match decode (eventWord p s) s.condRegs with
    | .ok i => .run i s
    | .error _ => .stop .reservedState

/-- A step takes the oldest input sample. An empty queue is a step in which nothing is presented (log entry 2). A ROM that
fails `WF` is refused before any event (R55, R258). -/
def fetch (s : State) : Fetch :=
  if s.rom.wf then
    match s.inp with
    | [] => .noEvent s
    | p :: rest => present p { s with inp := rest }
  else .refuse .romIllFormed

/-- The condition registers that a word's state reads, as reset leaves them (used by `State.withFetchWord`). -/
def resetCondRegs (code : BitVec 5) (s : State) : State :=
  if code = St.aCka then { s with ckA := 0 }
  else if code = St.aCkb then { s with ckB := 0 }
  else if code = St.bCk1 ∨ code = St.bCk2 then { s with nx := 0 }
  else if code = St.cPayload then { s with subPend := false }
  else if code = St.cCrc1 ∨ code = St.cCrc2 ∨ code = St.cCrc3 then { s with crc := 0 }
  else s

/-- The input sample that presents a table word: its event kind and byte, timestamps zero, the revision in force. -/
def samplePorts (w : BitVec 16) (s : State) : Ports where
  rst := false
  evValid := true
  evKind := w.extractLsb' 14 2
  evByte := wordByte w
  evT0 := 0
  evT1 := 0
  cfgRev := s.cfgRev

/-- The input sample of RESET, with the `cfg_rev` port at zero. -/
def resetPorts : Ports where
  rst := true
  evValid := false
  evKind := 0
  evByte := 0
  evT0 := 0
  evT1 := 0
  cfgRev := .rev0

end Sys2Proof.Machine
end

