-- ==== Sys2Proof/Machine/Step.lean ====
section
/-! DEFINITION. The step of the block (rule R150): select the row the presented ports and `st` give, and run its rule once. -/

namespace Sys2Proof.Machine

/-- `Step(state, input)` (R150). -/
def step (s : State) : Host.Outcome State Fault Refusal :=
  match fetch s with
  | .stop f => .fault f
  | .refuse r => .refused r
  | .noEvent t => .next t.quiet
  | .run i t => exec i t

/-- `s` with a table word presented next (log entry 12): `st` from `W[12:8]`, the event at the head of the input queue, and
the condition registers that the word's state reads as `decodeTableWord` takes them. A word of fewer than 16 bits is
RESET's. -/
def State.withFetchWord (s : State) (nbits w : Nat) : State :=
  if nbits < 16 then { s with inp := resetPorts :: s.inp }
  else
    let v : BitVec 16 := BitVec.ofNat 16 w
    let s1 := resetCondRegs (wordState v) s
    { s1 with st := wordState v, inp := samplePorts v s :: s.inp }

end Sys2Proof.Machine
end

