-- ==== Sys2Proof/Machine/Outputs.lean ====
section
/-! DEFINITION. The output ports that have no storage of their own (rules R36, R70), the numbers of error codes and label
tags (rules R80, R250), and `active_protocol` (rule R22). -/

namespace Sys2Proof.Machine

/-- The number of an error code (R250). -/
def ErrCode.code : ErrCode → BitVec 4
  | .sync2 => 1
  | .ckA => 2
  | .ckB => 3
  | .nmeaCk1 => 4
  | .nmeaCk2 => 5
  | .termCr => 6
  | .termLf => 7
  | .crc1 => 8
  | .crc2 => 9
  | .crc3 => 10
  | .abort => 11

/-- The tag of a label (R80). -/
def Label.tag : Label → BitVec 5
  | .markerA => 1
  | .sync2 => 2
  | .cls _ _ => 3
  | .id _ _ _ => 4
  | .length _ => 5
  | .fieldU _ _ _ _ => 6
  | .fieldS _ _ _ _ => 7
  | .text _ _ => 8
  | .bytes _ _ => 9
  | .region _ _ => 10
  | .placeholder _ _ => 11
  | .valid _ => 12
  | .invalid _ => 13
  | .sentence _ => 14
  | .term _ => 15
  | .markerC => 16
  | .type _ => 17
  | .subtype _ => 18
  | .hex _ => 19

/-- The class of an error in the source's taxonomy (R250; ABORT is treated as a checksum failure, R158). -/
inductive ErrClass where
  | syncLoss
  | checksumFailure
  deriving DecidableEq, Repr

/-- The class column of R250. -/
def ErrCode.errClass : ErrCode → ErrClass
  | .sync2 | .termCr | .termLf => .syncLoss
  | .ckA | .ckB | .nmeaCk1 | .nmeaCk2 | .crc1 | .crc2 | .crc3 | .abort => .checksumFailure

/-- `active_protocol` (R22). -/
inductive Protocol where
  | none
  | a
  | b
  | c
  deriving DecidableEq, Repr

/-- `active_protocol` as a function of `st` (R22); a reserved code has no value in the table. -/
def activeProtocol (st : BitVec 5) : Option Protocol :=
  if st.toNat = 0 then some .none
  else if st.toNat ≤ 8 then some .a
  else if st.toNat ≤ 13 then some .b
  else if st.toNat ≤ 21 then some .c
  else Option.none

namespace State

/-- `ann_valid` (R70). -/
def annValid (s : State) : Bool := s.ann.isSome

/-- `err_code`: the error code when the annotation is `INVALID(code)`, else 0 (R70, R250). -/
def errCode (s : State) : BitVec 4 :=
  match s.ann with
  | some ⟨.invalid code, _, _⟩ => code.code
  | _ => 0

/-- `st_q` (R36, R70). -/
def stQ (s : State) : BitVec 5 := s.st

/-- `ck_a_q` (R36, R70). -/
def ckAQ (s : State) : Byte := s.ckA

/-- `ck_b_q` (R36, R70). -/
def ckBQ (s : State) : Byte := s.ckB

/-- `nx_q` (R36, R70). -/
def nxQ (s : State) : Byte := s.nx

/-- `crc_q` (R36, R70). -/
def crcQ (s : State) : BitVec 24 := s.crc

end State

end Sys2Proof.Machine
end

