-- ==== Sys2Proof/Machine/Render.lean ====
section
/-! DEFINITION. The default `RENDER` table (rule R84), the default value of the argument `Parameters.render`; no step reads it. It is
given as a function to byte strings, since `SENTENCE` and `TEXT` render arbitrary bytes verbatim (log entry 15). -/

namespace Sys2Proof.Machine.Render

/-- A text literal of the table or a name of the ROM, as its UTF-8 bytes. -/
def str (t : String) : List Byte := t.toUTF8.toList.map (fun x => BitVec.ofNat 8 x.toNat)

/-- One uppercase hex digit. -/
def hexDigit (n : Nat) : Char := if n % 16 < 10 then Char.ofNat (48 + n % 16) else Char.ofNat (55 + n % 16)

/-- Uppercase hex of `v` in exactly `digits` digits. -/
def hexFixed : Nat → Nat → String
  | 0, _ => ""
  | digits + 1, v => (hexFixed digits (v / 16)).push (hexDigit v)

/-- `decimal(n)`. -/
def dec (n : Nat) : String := String.ofList (Nat.toDigits 10 n)

/-- Signed decimal, `-` for negatives. -/
def decInt (v : Int) : String := if v < 0 then "-" ++ dec v.natAbs else dec v.natAbs

/-- `0x` and two uppercase hex digits. -/
def hexByte (b : Byte) : String := "0x" ++ hexFixed 2 b.toNat

/-- The text of `which` in `VALID`. -/
def checkByte : CheckByte → String
  | .ckA => "CK_A"
  | .ckB => "CK_B"
  | .nmeaCk1 => "checksum 1"
  | .nmeaCk2 => "checksum 2"
  | .crc1 => "checksum 1"
  | .crc2 => "checksum 2"
  | .crc3 => "checksum 3"

/-- The "what" column of R250. -/
def what : ErrCode → String
  | .sync2 => "SYNC 2"
  | .ckA => "CK_A"
  | .ckB => "CK_B"
  | .nmeaCk1 => "checksum 1"
  | .nmeaCk2 => "checksum 2"
  | .termCr => "terminator CR"
  | .termLf => "terminator LF"
  | .crc1 => "checksum 1"
  | .crc2 => "checksum 2"
  | .crc3 => "checksum 3"
  | .abort => "frame aborted"

/-- Bytes as `0x` pairs separated by one space. -/
def byteRun (s : List Byte) : String := " ".intercalate (s.map hexByte)

/-- The default `RENDER` table (R84). -/
def render : Label → List Byte
  | .markerA => str "UBX Sync 1"
  | .sync2 => str "UBX Sync 2"
  | .cls _ (some n) => str n
  | .cls _ none => str "Class"
  | .id _ _ (some n) => str n
  | .id _ _ none => str "ID"
  | .length n => str ("Length " ++ dec n.toNat)
  | .fieldU name v .dec _ => str (name ++ ": " ++ dec v.toNat)
  | .fieldU name v .hex w => str (name ++ ": 0x" ++ hexFixed (2 * w) v.toNat)
  | .fieldS name v .dec _ => str (name ++ ": " ++ decInt v)
  | .fieldS name v .hex w => str (name ++ ": 0x" ++ hexFixed (2 * w) (v % (2 : Int) ^ (8 * w)).toNat)
  | .text name s => str (name ++ ": ") ++ s
  | .bytes name s => str (name ++ ": " ++ byteRun s)
  | .region name n => str (name ++ " (" ++ dec n.toNat ++ " bytes)")
  | .placeholder k b => str ("Payload[" ++ dec k.toNat ++ "] " ++ hexByte b)
  | .valid which => str ("Valid " ++ checkByte which)
  | .invalid code => str ("INVALID " ++ what code)
  | .sentence s => s
  | .term .cr => str "CR"
  | .term .lf => str "LF"
  | .markerC => str "RTCM3 Preamble"
  | .type t => str ("Type " ++ dec t.toNat)
  | .subtype s => str ("Subtype " ++ dec s.toNat)
  | .hex b => str (hexByte b)

end Sys2Proof.Machine.Render
end

