-- ==== Sys2Proof/Machine/Parameters.lean ====
section
/-! DEFINITION. The implementation parameters that rule R7 leaves OPEN or decides, as arguments: the timestamp type, the
revision, the registry, the buffer capacity, the subtype set and the rendering; and the run of a block so configured from
power-on (rule R281) over input samples whose timestamps are values of the argument type. -/

namespace Sys2Proof.Machine

/-- The timestamps of an annotation read or renamed by `f`. -/
def AnnotationOf.mapTs {T U : Type} (f : T → U) (a : AnnotationOf T) : AnnotationOf U := ⟨a.label, f a.t0, f a.t1⟩

/-- The timestamps of a port sample read or renamed by `f`. -/
def PortsOf.mapTs {T U : Type} (f : T → U) (p : PortsOf T) : PortsOf U :=
  ⟨p.rst, p.evValid, p.evKind, p.evByte, f p.evT0, f p.evT1, p.cfgRev⟩

/-- The annotation port over the next `n` steps, up to the step at which the run stops. -/
def trace : Nat → State → List (Option Annotation)
  | 0, _ => []
  | n + 1, s =>
    match step s with
    | .next t => t.ann :: trace n t
    | .fault _ => []
    | .refused _ => []

/-- The parameters of R7 that are no constants of the block. -/
structure Parameters where
  /-- `TS` (OPEN): any type; the block only copies its values from events to annotations (R62) -/
  TS        : Type
  /-- the value read from an unset `f_t0`: any value, since the spec states none (R39; log entry 6) -/
  unset     : TS
  /-- `MODULE_REV` (OPEN) -/
  moduleRev : ModuleRev
  /-- `REGISTRY` (OPEN): the whole ROM contents; DESIGN CHOICE (log entry 20): not required to hold the ACK entries of R56 -/
  registry  : Registry
  /-- `TEXT_CAP` (OPEN), `none` for the reference value unbounded -/
  textCap   : Option Nat := none
  /-- `RTCM_SUBTYPE_TYPES`, decided to be empty -/
  subTypes  : List (BitVec 12) := []
  /-- `RENDER` (OPEN), with the default table of R84 -/
  render    : Label → List Byte := Render.render

/-- Samples with their timestamps named by naturals: `2i` and `2i + 1` for the start and the end of sample `i` (log entry
1), counted from `n`. -/
def nameTimestamps {T : Type} : Nat → List (PortsOf T) → List Ports
  | _, [] => []
  | n, p :: ps => ⟨p.rst, p.evValid, p.evKind, p.evByte, 2 * n, 2 * n + 1, p.cfgRev⟩ :: nameTimestamps (n + 1) ps

namespace Parameters

/-- The timestamp that a natural names in a run over `samples`. -/
def timestamp (P : Parameters) (samples : List (PortsOf P.TS)) (t : Sys2Proof.TS) : P.TS :=
  match samples[t / 2]? with
  | some p => if t % 2 = 0 then p.evT0 else p.evT1
  | none => P.unset

/-- The block of the parameters in the reset state, with `samples` still to be presented (R281). The argument `REGISTRY` is
the whole ROM, with or without the ACK entries of R56 (DESIGN CHOICE, log entry 20). -/
def powerOn (P : Parameters) (samples : List (PortsOf P.TS)) : State :=
  { State.reset with
    cfgRev := P.moduleRev, rom := P.registry, textCap := P.textCap, subTypes := P.subTypes, inp := nameTimestamps 0 samples }

/-- What the annotation port shows over `samples`, one entry a step, up to the step at which the run stops. -/
def annotations (P : Parameters) (samples : List (PortsOf P.TS)) : List (Option (AnnotationOf P.TS)) :=
  (trace samples.length (P.powerOn samples)).map (Option.map (AnnotationOf.mapTs (P.timestamp samples)))

/-- The annotations as plain text, by the argument `RENDER` (R84). -/
def texts (P : Parameters) (samples : List (PortsOf P.TS)) : List (Option (List Byte × P.TS × P.TS)) :=
  (P.annotations samples).map (Option.map (fun a => (P.render a.label, a.t0, a.t1)))

end Parameters

end Sys2Proof.Machine
end

