-- ==== Sys2Proof/Safety.lean ====
section
/-! DEFINITION. The terms in which claims are made: the invariant of the block, how a stream of byte events is
presented, and the renaming of timestamps. -/

namespace Sys2Proof.Machine

/-- The payload states of rule R29. -/
def payloadStates : List (BitVec 5) := [St.aPayload, St.cType1, St.cType2, St.cPayload]

/-- The states whose rule reads `f_t0` (R175, R200, R201, R221, R223): `B_BODY` reads it at `*`. -/
def startStates : List (BitVec 5) := [St.aLen2, St.bBody, St.cLen2, St.cType2]

/-- The invariant of the block: what holds in every state that a run from reset reaches. -/
structure State.Inv (s : State) : Prop where
  /-- `st` holds no reserved code (R21). -/
  legal : s.st.toNat ≤ 21
  /-- In `IDLE` every per-frame register is at its reset value (R37, R160, R251, R280). -/
  idleClear : s.st = St.idle → s.clearFrame = s
  /-- `rem >= 1` and `k + rem = plen` in the payload states (R29). -/
  counters : s.st ∈ payloadStates → 1 ≤ s.rem.toNat ∧ s.k.toNat + s.rem.toNat = s.plen.toNat
  /-- `C_TYPE1` is at payload offset 0, `C_TYPE2` at 1, `C_PAYLOAD` at 2 or more (R21). -/
  offsets : (s.st = St.cType1 → s.k.toNat = 0) ∧ (s.st = St.cType2 → s.k.toNat = 1) ∧ (s.st = St.cPayload → 2 ≤ s.k.toNat)
  /-- A protocol C length is at most 1023 (R28). -/
  lengthC : 16 ≤ s.st.toNat → s.plen.toNat ≤ 1023
  /-- `f_t0` is set where a rule reads it (R39). -/
  start : s.st ∈ startStates → s.fT0.isSome = true
  /-- A pending subtype is met in `C_PAYLOAD`, with its start recorded (R33, R223). -/
  subtype : s.subPend = true → s.st = St.cPayload ∧ s.fT0.isSome = true
  /-- A build in progress has a start time (R130). -/
  build : s.fValid = true → s.fT0.isSome = true
  /-- The additive engine is at 0 outside protocol A (R112). -/
  engineA : activeProtocol s.st ≠ some .a → s.ckA = 0 ∧ s.ckB = 0
  /-- The XOR engine is at 0 outside protocol B (R112). -/
  engineB : activeProtocol s.st ≠ some .b → s.nx = 0
  /-- The CRC engine is at 0 outside protocol C (R112). -/
  engineC : activeProtocol s.st ≠ some .c → s.crc = 0
  /-- `f_buf` holds at most `TEXT_CAP` bytes (R31). -/
  cap : ∀ n, s.textCap = some n → s.fBuf.length ≤ n

/-- The sample that presents a byte event while `rev` stands on the `cfg_rev` port (R71). -/
def byteEvent (rev : ModuleRev) (b : Byte) (sp : Span) : Ports := ⟨false, true, kindByte, b, sp.t0, sp.t1, rev⟩

/-- The samples that present a stream of bytes with their spans. -/
def byteEvents (rev : ModuleRev) (evs : List (Byte × Span)) : List Ports := evs.map (fun e => byteEvent rev e.1 e.2)

/-- Run the block on a stream of byte events, one a step, with `rest` still to come after it. -/
def runBytes (s : State) (evs : List (Byte × Span)) (rest : List Ports) : Host.Outcome State Fault Refusal :=
  Sys2Proof.core.run evs.length { s with inp := byteEvents s.cfgRev evs ++ rest }

/-- A block just reset, with the ROM, parameters, revision and inputs of `s` (R165). -/
def State.fresh (s : State) : State :=
  { State.reset with cfgRev := s.cfgRev, rom := s.rom, textCap := s.textCap, subTypes := s.subTypes, inp := s.inp }

/-- Every timestamp of a state renamed. -/
def State.mapTs (f : TS → TS) (s : State) : State :=
  { s with fT0 := s.fT0.map f, inp := s.inp.map (PortsOf.mapTs f), ann := s.ann.map (AnnotationOf.mapTs f) }

/-- An outcome with its next state changed by `g`. -/
def mapNext (g : State → State) : Host.Outcome State Fault Refusal → Host.Outcome State Fault Refusal
  | .next s => .next (g s)
  | .fault f => .fault f
  | .refused r => .refused r

end Sys2Proof.Machine
end

