-- ==== Sys2Proof/Certificates/Slice0/Obligations.lean ====
section
/-! DEFINITION. The statements for the provers. Each formalises rules of spec/; a docstring names them. Helper predicates of
the statements stand first, under Sys2Proof.Claims. -/

namespace Sys2Proof.Claims

open Sys2Proof.Machine

/-- The row that a `BYTE` event selects in state `st` (R74). -/
def byteRow (st : BitVec 5) (b : Byte) (rev : ModuleRev) (sp : Span) (r : CondRegs) : Except DecodeError Instr :=
  decode ⟨false, rev, formWord kindByte st b, sp⟩ r

/-- The row that an `ABORT` event selects in state `st`, whatever stands on `ev_byte` (R74). -/
def abortRow (st : BitVec 5) (b : Byte) (rev : ModuleRev) (sp : Span) (r : CondRegs) : Except DecodeError Instr :=
  decode ⟨false, rev, formWord kindAbort st b, sp⟩ r

/-- Every per-frame register at the value rule R37 writes. -/
def FrameCleared (t : State) : Prop :=
  t.ckA = 0 ∧ t.ckB = 0 ∧ t.nx = 0 ∧ t.crc = 0 ∧ t.cls = 0 ∧ t.mid = 0 ∧ t.lenb = 0 ∧ t.plen = 0 ∧ t.k = 0 ∧ t.rem = 0 ∧
  t.fVal = 0 ∧ t.fT0 = none ∧ t.fLo = 0 ∧ t.fHi = 0 ∧ t.fValid = false ∧ t.fBuf = [] ∧ t.fCnt = 0 ∧
  t.dynLen = 0 ∧ t.dynValid = false ∧ t.cType = 0 ∧ t.cSub = 0 ∧ t.subPend = false

/-- The ROM, the parameters, the revision in force and the inputs still to come are unchanged. -/
def ConfigKept (s t : State) : Prop :=
  t.cfgRev = s.cfgRev ∧ t.rom = s.rom ∧ t.textCap = s.textCap ∧ t.subTypes = s.subTypes ∧ t.inp = s.inp

/-- `resync` (R251) took the step from `s` to `t`: `INVALID(code)` with the event's span, code number `n` on `err_code`, every
per-frame register cleared, state `IDLE`. -/
def Resynced (code : ErrCode) (n : BitVec 4) (sp : Span) (s t : State) : Prop :=
  t.ann = some ⟨.invalid code, sp.t0, sp.t1⟩ ∧ t.errCode = n ∧ FrameCleared t ∧ t.st = 0 ∧ ConfigKept s t

/-- `finish` (R160) took the step from `s` to `t`, after the label `l` was emitted. -/
def Finished (l : Label) (sp : Span) (s t : State) : Prop :=
  t.ann = some ⟨l, sp.t0, sp.t1⟩ ∧ t.errCode = 0 ∧ FrameCleared t ∧ t.st = 0 ∧ ConfigKept s t

/-- Only the state code and the annotation port changed. -/
def Advanced (l : Label) (code : BitVec 5) (sp : Span) (s t : State) : Prop :=
  t = { s with st := code, ann := some ⟨l, sp.t0, sp.t1⟩ }

/-- The additive engine after folding `b`, in numbers modulo 256 (R101). -/
def FletcherFolded (b : Byte) (s t : State) : Prop :=
  t.ckA.toNat = (s.ckA.toNat + b.toNat) % 256 ∧ t.ckB.toNat = (s.ckB.toNat + (s.ckA.toNat + b.toNat)) % 256

/-- An annotation that starts at the recorded `f_t0` of `s`. With `f_t0 = none` (no run from reset) its start is a free
value (log entry 6), of which nothing is said. -/
def FromStart (s : State) (l : Label) (t1 : TS) (a : Option Annotation) : Prop :=
  ∃ x, a = some ⟨l, x, t1⟩ ∧ ∀ ta, s.fT0 = some ta → x = ta

/-- The condition on the registers under which an instruction's row is selected (opcode_table.json `cond`). -/
def RowCondition (i : Instr) (r : CondRegs) : Prop :=
  match i with
  | .aCkaOk b _ => b = r.ckA
  | .aCkaBad b _ => b ≠ r.ckA
  | .aCkbOk b _ => b = r.ckB
  | .aCkbBad b _ => b ≠ r.ckB
  | .bCk1Ok b _ => b = Operands.hexChar (r.nx.extractLsb' 4 4)
  | .bCk1Bad b _ => b ≠ Operands.hexChar (r.nx.extractLsb' 4 4)
  | .bCk2Ok b _ => b = Operands.hexChar (r.nx.extractLsb' 0 4)
  | .bCk2Bad b _ => b ≠ Operands.hexChar (r.nx.extractLsb' 0 4)
  | .cCrc1Ok b _ => b = r.crc.extractLsb' 16 8
  | .cCrc1Bad b _ => b ≠ r.crc.extractLsb' 16 8
  | .cCrc2Ok b _ => b = r.crc.extractLsb' 8 8
  | .cCrc2Bad b _ => b ≠ r.crc.extractLsb' 8 8
  | .cCrc3Ok b _ => b = r.crc.extractLsb' 0 8
  | .cCrc3Bad b _ => b ≠ r.crc.extractLsb' 0 8
  | .cSubtype _ _ => r.subPend = true
  | .cPayload _ _ => r.subPend = false
  | .reset _ | .idlePreambleA _ | .idleDelimB _ | .idlePreambleC _ | .idleNoise _ _ => True
  | .aSync2Ok _ | .aSync2Bad _ _ | .aClass _ _ | .aId _ _ | .aLen1 _ _ | .aLen2 _ _ | .aPayload _ _ => True
  | .bEndDelim _ | .bBody _ _ | .bCrOk _ | .bCrBad _ _ | .bLfOk _ | .bLfBad _ _ => True
  | .cLen1 _ _ | .cLen2 _ _ | .cType1 _ _ | .cType2 _ _ => True
  | .abortIdle _ | .abortFrame _ _ | .reservedKind _ _ => True

/-- `Applicable(d)` with `End(d) = e`, in numbers (R121, R122). -/
def Applicable (d : FieldDescriptor) (s : State) (e : Nat) : Prop :=
  (match d.stop with
    | .fixed x => e = x.toNat
    | .toEnd => e + 1 = s.plen.toNat
    | .fromCapture => s.dynValid = true ∧ 1 ≤ s.dynLen.toNat ∧ e + 1 = d.lo.toNat + s.dynLen.toNat) ∧
  d.lmin.toNat ≤ s.plen.toNat ∧ s.plen.toNat ≤ d.lmax.toNat ∧
  (d.rev = .any ∨ (d.rev = .rev0 ∧ s.cfgRev = .rev0) ∨ (d.rev = .rev1 ∧ s.cfgRev = .rev1)) ∧
  d.lo.toNat ≤ s.k.toNat ∧ s.k.toNat ≤ e

/-- The accumulator when the byte at offset `k` of descriptor `d` is accumulated: a new build at the descriptor's first byte,
else the build in progress (R125, R126). -/
def opened (d : FieldDescriptor) (e : Nat) (sp : Span) (s : State) : State :=
  if s.k = d.lo then
    { s with
      fVal := 0, fBuf := [], fCnt := 0, fT0 := some sp.t0, fLo := d.lo, fHi := BitVec.ofNat 16 e, fValid := true }
  else s

/-- The build in progress is the one of `d` (R126, in the 16 bits of `f_hi`, log entry 7). -/
def buildIs (d : FieldDescriptor) (e : Nat) (s : State) : Prop :=
  s.fValid = true ∧ s.fLo = d.lo ∧ s.fHi = BitVec.ofNat 16 e

/-- The kinds that gather bytes (R128). -/
def gathersBytes (d : FieldDescriptor) : Prop := d.kind = .text ∨ d.kind = .array

/-- The label of a completed field from the accumulator after its last byte (R130). -/
def completedLabel (d : FieldDescriptor) (e : Nat) (v : BitVec 64) (buf : List Byte) (cnt : BitVec 16) : Label :=
  match d.kind with
  | .u => .fieldU d.name v d.base (e - d.lo.toNat + 1)
  | .s => .fieldS d.name (Operands.signed v.toNat (e - d.lo.toNat + 1)) d.base (e - d.lo.toNat + 1)
  | .text => .text d.name buf
  | .array => .bytes d.name buf
  | .region => .region d.name cnt

/-- The part of A.PAYLOAD outside the extractor: checksum, counters, next state, and what no payload byte writes (R176). -/
def PayloadStep (b : Byte) (s t : State) : Prop :=
  FletcherFolded b s t ∧ t.k = s.k + 1 ∧ t.rem = s.rem - 1 ∧ t.st = (if s.rem = 1 then St.aCka else s.st) ∧
  t = { s with
    st := t.st, ckA := t.ckA, ckB := t.ckB, k := t.k, rem := t.rem, fVal := t.fVal, fT0 := t.fT0, fLo := t.fLo,
    fHi := t.fHi, fValid := t.fValid, fBuf := t.fBuf, fCnt := t.fCnt, dynLen := t.dynLen, dynValid := t.dynValid,
    ann := t.ann }

/-- A label with the display name of a field replaced. -/
def rename (n : String) : Label → Label
  | .fieldU _ v b w => .fieldU n v b w
  | .fieldS _ v b w => .fieldS n v b w
  | .text _ s => .text n s
  | .bytes _ s => .bytes n s
  | .region _ k => .region n k
  | l => l

/-- The rows of `BYTE` events. -/
def isByteRow : Instr → Bool
  | .reset _ | .abortIdle _ | .abortFrame _ _ | .reservedKind _ _ => false
  | .idlePreambleA _ | .idleDelimB _ | .idlePreambleC _ | .idleNoise _ _ => true
  | .aSync2Ok _ | .aSync2Bad _ _ | .aClass _ _ | .aId _ _ | .aLen1 _ _ | .aLen2 _ _ | .aPayload _ _ => true
  | .aCkaOk _ _ | .aCkaBad _ _ | .aCkbOk _ _ | .aCkbBad _ _ => true
  | .bEndDelim _ | .bBody _ _ | .bCk1Ok _ _ | .bCk1Bad _ _ | .bCk2Ok _ _ | .bCk2Bad _ _ => true
  | .bCrOk _ | .bCrBad _ _ | .bLfOk _ | .bLfBad _ _ => true
  | .cLen1 _ _ | .cLen2 _ _ | .cType1 _ _ | .cType2 _ _ | .cSubtype _ _ | .cPayload _ _ => true
  | .cCrc1Ok _ _ | .cCrc1Bad _ _ | .cCrc2Ok _ _ | .cCrc2Bad _ _ | .cCrc3Ok _ _ | .cCrc3Bad _ _ => true

/-- The `BYTE` steps that emit nothing, as rule R163 lists them. -/
def SilentStep (i : Instr) (s : State) : Prop :=
  (∃ b sp, i = .idleNoise b sp) ∨ (∃ sp, i = .idleDelimB sp) ∨
  (∃ b sp, i = .aLen1 b sp) ∨ (∃ b sp, i = .cLen1 b sp) ∨
  (∃ b sp, i = .cType1 b sp ∧ s.rem ≠ 1) ∨
  (∃ b sp, i = .bBody b sp) ∨
  (∃ b sp d e, i = .aPayload b sp ∧ selectField s = some (d, e) ∧ s.k.toNat ≠ e)

/-- The label on the annotation port. -/
def shown (s : State) : Option Label := s.ann.map (·.label)

end Sys2Proof.Claims

open Sys2Proof Sys2Proof.Machine Sys2Proof.Claims

/-! ### Selection, encoding and the step -/

/-- R75: the rows of each state. -/
def Obligations.EveryStateSelectsItsRows : Prop :=
  ∀ (rev : ModuleRev) (sp : Span) (b : Byte) (r : CondRegs),
    byteRow St.idle b rev sp r = .ok (if b = 0xB5 then .idlePreambleA sp else if b = 0x24 then .idleDelimB sp
      else if b = 0xD3 then .idlePreambleC sp else .idleNoise b sp) ∧
    byteRow St.seenPreambleA1 b rev sp r = .ok (if b = 0x62 then .aSync2Ok sp else .aSync2Bad b sp) ∧
    byteRow St.bBody b rev sp r = .ok (if b = 0x2A then .bEndDelim sp else .bBody b sp) ∧
    byteRow St.bCr b rev sp r = .ok (if b = 0x0D then .bCrOk sp else .bCrBad b sp) ∧
    byteRow St.bLf b rev sp r = .ok (if b = 0x0A then .bLfOk sp else .bLfBad b sp) ∧
    byteRow St.aCka b rev sp r = .ok (if b = r.ckA then .aCkaOk b sp else .aCkaBad b sp) ∧
    byteRow St.aCkb b rev sp r = .ok (if b = r.ckB then .aCkbOk b sp else .aCkbBad b sp) ∧
    byteRow St.bCk1 b rev sp r = .ok (if b = Operands.hexChar (r.nx.extractLsb' 4 4) then .bCk1Ok b sp else .bCk1Bad b sp) ∧
    byteRow St.bCk2 b rev sp r = .ok (if b = Operands.hexChar (r.nx.extractLsb' 0 4) then .bCk2Ok b sp else .bCk2Bad b sp) ∧
    byteRow St.cCrc1 b rev sp r = .ok (if b = r.crc.extractLsb' 16 8 then .cCrc1Ok b sp else .cCrc1Bad b sp) ∧
    byteRow St.cCrc2 b rev sp r = .ok (if b = r.crc.extractLsb' 8 8 then .cCrc2Ok b sp else .cCrc2Bad b sp) ∧
    byteRow St.cCrc3 b rev sp r = .ok (if b = r.crc.extractLsb' 0 8 then .cCrc3Ok b sp else .cCrc3Bad b sp) ∧
    byteRow St.cPayload b rev sp r = .ok (if r.subPend = true then .cSubtype b sp else .cPayload b sp) ∧
    byteRow St.aClass b rev sp r = .ok (.aClass b sp) ∧
    byteRow St.aId b rev sp r = .ok (.aId b sp) ∧
    byteRow St.aLen1 b rev sp r = .ok (.aLen1 b sp) ∧
    byteRow St.aLen2 b rev sp r = .ok (.aLen2 b sp) ∧
    byteRow St.aPayload b rev sp r = .ok (.aPayload b sp) ∧
    byteRow St.cLen1 b rev sp r = .ok (.cLen1 b sp) ∧
    byteRow St.cLen2 b rev sp r = .ok (.cLen2 b sp) ∧
    byteRow St.cType1 b rev sp r = .ok (.cType1 b sp) ∧
    byteRow St.cType2 b rev sp r = .ok (.cType2 b sp) ∧
    abortRow St.idle b rev sp r = .ok (.abortIdle sp) ∧
    (∀ code : BitVec 5, code ≠ St.idle → code.toNat ≤ 21 → abortRow code b rev sp r = .ok (.abortFrame code sp))

/-- R87: in every state with one of the 22 codes, every byte value and register value selects exactly one row besides
RESET's. -/
def Obligations.ExactlyOneRowPerByte : Prop :=
  ∀ (rev : ModuleRev) (sp : Span) (st : BitVec 5) (b : Byte) (r : CondRegs), st.toNat ≤ 21 →
    ((rows.tail).filter (fun row => row.selects ⟨false, rev, formWord kindByte st b, sp⟩ r)).length = 1

/-- Decoding the encoding of a well-formed instruction gives it back, with every operand, for all register values under which
its row is selected (R74). -/
def Obligations.DecodingAnEncodingGivesItBack : Prop :=
  ∀ (i : Instr) (r : CondRegs), i.WellFormed → RowCondition i r → decode (encode i) r = .ok i

/-- What the decoder accepts of an event is a well-formed instruction whose encoding is that word, under its row's condition
(R74). -/
def Obligations.EncodingADecodedWordGivesItBack : Prop :=
  ∀ (e : EventWord) (r : CondRegs) (i : Instr), e.rst = false → decode e r = .ok i →
    i.WellFormed ∧ encodeWord i = e.w ∧ spanOf i = e.sp ∧ resetOf i = none ∧ RowCondition i r

/-- The layout of the decode word, in numbers (R74; the byte field of the reserved kinds is the model's choice, log entry
11). -/
def Obligations.DecodeWordLayout : Prop :=
  ∀ (kind : BitVec 2) (st : BitVec 5) (b : Byte),
    (formWord kind st b).toNat =
      kind.toNat * 2 ^ 14 + st.toNat * 2 ^ 8 + (if kind = 0b01 then 0 else b.toNat)

/-- Words written out from opcode_table.json, one for each family, decode to their instructions. -/
def Obligations.TableWordsDecode : Prop :=
  ∀ sp : Span,
    decode ⟨false, .rev0, 0b0000000010110101, sp⟩ CondRegs.reset = .ok (.idlePreambleA sp) ∧
    decode ⟨false, .rev0, 0b0000001000000101, sp⟩ CondRegs.reset = .ok (.aClass 5 sp) ∧
    decode ⟨false, .rev0, 0b0000100100101010, sp⟩ CondRegs.reset = .ok (.bEndDelim sp) ∧
    decode ⟨false, .rev0, 0b0001001001111111, sp⟩ CondRegs.reset = .ok (.cPayload 0x7F sp) ∧
    decode ⟨false, .rev0, 0b0100100100000000, sp⟩ CondRegs.reset = .ok (.abortFrame 9 sp) ∧
    decode ⟨true, .rev1, 0b0000000010110101, sp⟩ CondRegs.reset = .ok (.reset .rev1)

/-- R150: reset first, whatever event is presented; then no event; else the one row that the decode word selects runs. -/
def Obligations.StepRunsTheSelectedRow : Prop :=
  ∀ (s : State) (p : Ports) (rest : List Ports), s.rom.wf = true → s.inp = p :: rest →
    (p.rst = true → step s = exec (.reset p.cfgRev) { s with inp := rest }) ∧
    (p.rst = false → p.cfgRev = s.cfgRev →
      (p.evValid = false → step s = .next { s with inp := rest, ann := none }) ∧
      (p.evValid = true → ∀ i,
        decode ⟨false, p.cfgRev, formWord p.evKind s.st p.evByte, ⟨p.evT0, p.evT1⟩⟩ ⟨s.ckA, s.ckB, s.nx, s.crc, s.subPend⟩
          = .ok i → step s = exec i { s with inp := rest }))

/-- The model's reading of an empty input queue (log entry 2): a step in which nothing is presented. -/
def Obligations.EmptyQueueStepIsQuiet : Prop :=
  ∀ s : State, s.rom.wf = true → s.inp = [] → step s = .next { s with ann := none }

/-- Row selection finds a reserved state code exactly when one of the two event kinds is presented while `st` holds 22..31
(R21, R258; the cases with a reserved kind, no event or reset are the model's, log entry 10). -/
def Obligations.StepFaultsOnlyInReservedStates : Prop :=
  ∀ (s : State) (f : Fault), step s = .fault f ↔
    s.rom.wf = true ∧ ∃ p rest, s.inp = p :: rest ∧ p.rst = false ∧ p.cfgRev = s.cfgRev ∧ p.evValid = true ∧
      p.evKind.toNat < 2 ∧ 21 < s.st.toNat

/-! ### Reset, configuration and the ROM -/

/-- RESET leaves every register at its reset value and emits nothing; the ROM and the parameters are untouched; no
other instruction changes the revision in force. That RESET takes the revision from the port is the model's form
(70_reset_and_hazards.md R280, log entry 5). -/
def Obligations.ResetClearsEveryRegister : Prop :=
  (∀ (rev : ModuleRev) (w : BitVec 16) (sp : Span) (r : CondRegs), decode ⟨true, rev, w, sp⟩ r = .ok (.reset rev)) ∧
  ∀ (rev : ModuleRev) (s : State), ∃ t, exec (.reset rev) s = .next t ∧
    FrameCleared t ∧ t.st = St.idle ∧ t.ann = none ∧ t.errCode = 0 ∧
    t.rom = s.rom ∧ t.textCap = s.textCap ∧ t.subTypes = s.subTypes ∧ t.inp = s.inp ∧ t.cfgRev = rev ∧
    ∀ (i : Instr) (u : State), resetOf i = none → exec i s = .next u → u.cfgRev = s.cfgRev

/-- The registers of the state right after reset (10_state.md R38), and its ROM, which is the model's choice (log entry 4). -/
def Obligations.ResetStateRegisters : Prop :=
  FrameCleared State.reset ∧ State.reset.st.toNat = 0 ∧ State.reset.ann = none ∧ State.reset.errCode = 0 ∧
  State.reset.rom.romClass 0x05 = some "ACK" ∧ State.reset.rom.romId 0x05 0x01 = some "ACK" ∧
  State.reset.rom.romPlan 0x05 0x01 = []

/-- The revision in force changes only in a step with reset, and then to the value on the port; in any other step a
different value on the port is refused. The refusal and the port are the model's form of the spec's rule (log entry 5). -/
def Obligations.RevisionChangesOnlyAtReset : Prop :=
  (∀ s t : State, step s = .next t → t.cfgRev = s.cfgRev ∨
    ∃ p rest, s.inp = p :: rest ∧ p.rst = true ∧ t.cfgRev = p.cfgRev) ∧
  (∀ (s : State) (p : Ports) (rest : List Ports), s.rom.wf = true → s.inp = p :: rest → p.rst = false →
    p.cfgRev ≠ s.cfgRev → step s = .refused .cfgRevChange)

/-- `WF` is the conjunction of the named checks (20_memory.md R55), and a ROM that fails it is refused at every step,
whatever is presented: that the check is made at every step and not only before the first event is the model's reading (log
entry 16). -/
def Obligations.IllFormedRomIsRefused : Prop :=
  (∀ g : Registry, g.wf = true ↔
    (∀ e ∈ g.ct, e.name ≠ "") ∧ (∀ e ∈ g.it, e.name ≠ "") ∧
    ∀ p ∈ g.pt, ∀ d ∈ p.plan,
      (∀ e, d.stop = .fixed e → d.lo.toNat ≤ e.toNat) ∧
      (d.kind = .u ∨ d.kind = .s → ∃ e, d.stop = .fixed e ∧ 1 ≤ (e.toNat : Int) - d.lo.toNat + 1 ∧
        (e.toNat : Int) - d.lo.toNat + 1 ≤ 8) ∧
      (d.capture = true → d.kind = .u ∧ ∃ e, d.stop = .fixed e ∧ (e.toNat : Int) - d.lo.toNat + 1 ≤ 2) ∧
      (d.stop = .fromCapture → d.kind = .text ∨ d.kind = .array ∨ d.kind = .region) ∧
      d.lmin.toNat ≤ d.lmax.toNat ∧ d.name ≠ "") ∧
  (∀ s : State, s.rom.wf = false → step s = .refused .romIllFormed)

/-- R51, R52, R53: every ROM read answers the first matching entry, in table order. -/
def Obligations.RomReadsAnswerTheFirstMatch : Prop :=
  (∀ (g : Registry) (c : Byte),
    (∀ n, g.romClass c = some n ↔ ∃ pre x post, g.ct = pre ++ x :: post ∧ x.cls = c ∧ x.name = n ∧ ∀ y ∈ pre, y.cls ≠ c) ∧
    (g.romClass c = none ↔ ∀ y ∈ g.ct, y.cls ≠ c)) ∧
  (∀ (g : Registry) (c i : Byte),
    (∀ n, g.romId c i = some n ↔ ∃ pre x post, g.it = pre ++ x :: post ∧ x.cls = c ∧ x.mid = i ∧ x.name = n ∧
      ∀ y ∈ pre, ¬ (y.cls = c ∧ y.mid = i)) ∧
    (g.romId c i = none ↔ ∀ y ∈ g.it, ¬ (y.cls = c ∧ y.mid = i))) ∧
  (∀ (g : Registry) (c i : Byte),
    (∀ pre x post, g.pt = pre ++ x :: post → x.cls = c → x.mid = i → (∀ y ∈ pre, ¬ (y.cls = c ∧ y.mid = i)) →
      g.romPlan c i = x.plan) ∧
    ((∀ y ∈ g.pt, ¬ (y.cls = c ∧ y.mid = i)) → g.romPlan c i = []))

/-- The reverse read ports (20_memory.md, R57): the first entry with the name. -/
def Obligations.ReverseReadsAnswerTheFirstMatch : Prop :=
  ∀ (g : Registry) (n : String),
    (∀ c, g.romClassByName n = some c ↔
      ∃ pre x post, g.ct = pre ++ x :: post ∧ x.name = n ∧ x.cls = c ∧ ∀ y ∈ pre, y.name ≠ n) ∧
    (g.romClassByName n = none ↔ ∀ y ∈ g.ct, y.name ≠ n) ∧
    (∀ c i, g.romIdByName n = some (c, i) ↔
      ∃ pre x post, g.it = pre ++ x :: post ∧ x.name = n ∧ x.cls = c ∧ x.mid = i ∧ ∀ y ∈ pre, y.name ≠ n) ∧
    (g.romIdByName n = none ↔ ∀ y ∈ g.it, y.name ≠ n)

/-- No step changes the ROM or a parameter, and a step takes at most one input sample (20_memory.md, R50, R63). -/
def Obligations.NoStepWritesTheRom : Prop :=
  ∀ s t : State, step s = .next t →
    t.rom = s.rom ∧ t.textCap = s.textCap ∧ t.subTypes = s.subTypes ∧ t.inp = s.inp.tail

/-! ### The multiplexer -/

/-- R151, R152, R153, R154: the four rows of `IDLE`. -/
def Obligations.IdleRowsResult : Prop :=
  (∀ (rev : ModuleRev) (sp : Span) (b : Byte) (r : CondRegs),
    byteRow 0 b rev sp r = .ok (if b = 0xB5 then .idlePreambleA sp else if b = 0x24 then .idleDelimB sp
      else if b = 0xD3 then .idlePreambleC sp else .idleNoise b sp)) ∧
  ∀ (s : State) (sp : Span) (b : Byte),
    exec (.idlePreambleA sp) s = .next { s with st := 1, ann := some ⟨.markerA, sp.t0, sp.t1⟩ } ∧
    exec (.idleDelimB sp) s = .next { s with nx := 0, fBuf := [], fT0 := some sp.t0, st := 9, ann := none } ∧
    exec (.idlePreambleC sp) s = .next { s with crc := 0xE33309, st := 14, ann := some ⟨.markerC, sp.t0, sp.t1⟩ } ∧
    exec (.idleNoise b sp) s = .next { s with ann := none }

/-- R157, R158: `ABORT` does nothing in `IDLE` and resynchronizes with code 11 everywhere else. -/
def Obligations.AbortRowsResult : Prop :=
  (∀ (rev : ModuleRev) (sp : Span) (b : Byte) (r : CondRegs) (code : BitVec 5), code.toNat ≤ 21 →
    abortRow code b rev sp r = .ok (if code = 0 then .abortIdle sp else .abortFrame code sp)) ∧
  ∀ (s : State) (sp : Span) (code : BitVec 5),
    exec (.abortIdle sp) s = .next { s with ann := none } ∧
    ∃ t, exec (.abortFrame code sp) s = .next t ∧ Resynced .abort 11 sp s t

/-- R159: the reserved event kinds select RESERVED_KIND, which stops the model with no next state. -/
def Obligations.ReservedKindsAreRefused : Prop :=
  (∀ (rev : ModuleRev) (sp : Span) (st : BitVec 5) (b : Byte) (r : CondRegs) (kind : BitVec 2), 2 ≤ kind.toNat →
    ∃ low, decode ⟨false, rev, formWord kind st b, sp⟩ r = .ok (.reservedKind low sp)) ∧
  ∀ (s : State) (low : BitVec 15) (sp : Span), exec (.reservedKind low sp) s = .refused .reservedEventKind

/-- Only `IDLE` dispatches on a preamble (42_multiplexer.md, R156): the states that follow a preamble are entered from `IDLE`
alone. -/
def Obligations.OnlyIdleDispatchesOnAPreamble : Prop :=
  ∀ s t : State, step s = .next t → t.st ∈ [St.seenPreambleA1, St.bBody, St.cLen1] → t.st = s.st ∨ s.st = St.idle

/-- R165: after any return to `IDLE` the block is the block just reset: it shows the same annotations and reaches the same
states on every input. -/
def Obligations.ReturnToIdleIsAFreshStart : Prop :=
  ∀ s t : State, s.st ≠ St.idle → step s = .next t → t.st = St.idle →
    { t with ann := none } = t.fresh ∧
    ∀ n, trace n t = trace n t.fresh ∧ Sys2Proof.core.run (n + 1) t = Sys2Proof.core.run (n + 1) t.fresh

/-- R163: the `BYTE` steps that emit nothing are exactly those the rule lists. -/
def Obligations.SilentByteStepsAreExactlyTheListed : Prop :=
  ∀ (i : Instr) (s t : State), isByteRow i = true → exec i s = .next t → (t.ann = none ↔ SilentStep i s)

/-- R162: `cfg_rev` is read by the revision guards and nowhere else: with no guarded descriptor in the plan the selection in
force changes nothing. -/
def Obligations.RevisionIsReadOnlyByGuards : Prop :=
  ∀ (i : Instr) (s : State) (rev : ModuleRev), resetOf i = none →
    ((∃ b sp, i = .aPayload b sp) → ∀ d ∈ s.rom.romPlan s.cls s.mid, d.rev = .any) →
    exec i { s with cfgRev := rev } = mapNext (fun t => { t with cfgRev := rev }) (exec i s)

/-- R22: `active_protocol` as a function of the 22 state codes. -/
def Obligations.ActiveProtocolOfTheState : Prop :=
  ∀ st : BitVec 5, st.toNat ≤ 21 →
    (activeProtocol st = some .none ↔ st.toNat = 0) ∧
    (activeProtocol st = some .a ↔ 1 ≤ st.toNat ∧ st.toNat ≤ 8) ∧
    (activeProtocol st = some .b ↔ 9 ≤ st.toNat ∧ st.toNat ≤ 13) ∧
    (activeProtocol st = some .c ↔ 14 ≤ st.toNat ∧ st.toNat ≤ 21)

/-- `err_code` is the number of the code while `INVALID(code)` is on the port and 0 otherwise; the numbers are 1 to 11, all
different (60_exceptions.md section 1). -/
def Obligations.ErrorCodePortReportsInvalid : Prop :=
  (∀ (s : State) (c : ErrCode), (∃ ta te, s.ann = some ⟨.invalid c, ta, te⟩) → s.errCode = c.code) ∧
  (∀ s : State, s.errCode = 0 ↔ ∀ c ta te, s.ann ≠ some ⟨.invalid c, ta, te⟩) ∧
  (∀ c : ErrCode, 1 ≤ c.code.toNat ∧ c.code.toNat ≤ 11) ∧
  (∀ c d : ErrCode, c.code = d.code → c = d)

/-! ### Protocol A -/

/-- R170, R171: the second sync byte. -/
def Obligations.Sync2RowsResult : Prop :=
  (∀ (rev : ModuleRev) (sp : Span) (b : Byte) (r : CondRegs),
    byteRow 1 b rev sp r = .ok (if b = 0x62 then .aSync2Ok sp else .aSync2Bad b sp)) ∧
  ∀ (s : State) (sp : Span) (b : Byte),
    (∃ t, exec (.aSync2Ok sp) s = .next t ∧ Advanced .sync2 2 sp s t) ∧
    (∃ t, exec (.aSync2Bad b sp) s = .next t ∧ Resynced .sync2 1 sp s t)

/-- R172, R173: the class and id bytes, their names and the sums. -/
def Obligations.ClassAndIdRowsResult : Prop :=
  (∀ (rev : ModuleRev) (sp : Span) (b : Byte) (r : CondRegs),
    byteRow 2 b rev sp r = .ok (.aClass b sp) ∧ byteRow 3 b rev sp r = .ok (.aId b sp)) ∧
  ∀ (s : State) (sp : Span) (b : Byte),
    exec (.aClass b sp) s = .next { s with
      ckA := b, ckB := b, cls := b, st := 3, ann := some ⟨.cls b (s.rom.romClass b), sp.t0, sp.t1⟩ } ∧
    ∃ t, exec (.aId b sp) s = .next t ∧ FletcherFolded b s t ∧
      t = { s with
        ckA := t.ckA, ckB := t.ckB, mid := b, st := 4, ann := some ⟨.id s.cls b (s.rom.romId s.cls b), sp.t0, sp.t1⟩ }

/-- R174, R175: the protocol A length, little-endian, with the zero-length transition. -/
def Obligations.LengthRowsOfProtocolAResult : Prop :=
  (∀ (rev : ModuleRev) (sp : Span) (b : Byte) (r : CondRegs),
    byteRow 4 b rev sp r = .ok (.aLen1 b sp) ∧ byteRow 5 b rev sp r = .ok (.aLen2 b sp)) ∧
  ∀ (s : State) (sp : Span) (b : Byte),
    (∃ t, exec (.aLen1 b sp) s = .next t ∧ FletcherFolded b s t ∧
      t = { s with ckA := t.ckA, ckB := t.ckB, lenb := b, fT0 := some sp.t0, st := 5, ann := none }) ∧
    ∃ t, exec (.aLen2 b sp) s = .next t ∧ FletcherFolded b s t ∧
      t.plen.toNat = s.lenb.toNat + 256 * b.toNat ∧ t.k = 0 ∧ t.rem = t.plen ∧
      FromStart s (.length t.plen) sp.t1 t.ann ∧
      t.st = (if s.lenb = 0 ∧ b = 0 then 7 else 6) ∧
      t = { s with
        ckA := t.ckA, ckB := t.ckB, plen := t.plen, k := t.k, rem := t.rem, st := t.st, ann := t.ann }

/-- A payload byte that no descriptor takes: a placeholder, no accumulator register written (R120, R124, R176). -/
def Obligations.PayloadByteWithoutFieldResult : Prop :=
  ∀ (s : State) (sp : Span) (b : Byte),
    (∀ d ∈ s.rom.romPlan s.cls s.mid, ∀ e, ¬ Applicable d s e) →
    ∃ t, exec (.aPayload b sp) s = .next t ∧ PayloadStep b s t ∧
      t.ann = some ⟨.placeholder s.k b, sp.t0, sp.t1⟩ ∧
      t = { s with ckA := t.ckA, ckB := t.ckB, k := t.k, rem := t.rem, st := t.st, ann := t.ann }

/-- A payload byte that a descriptor takes: start or continue the build, accumulate by kind, and complete at the last
offset (R125 to R131, R133, R176; the 16 bits of `f_hi` are the model's reading, log entry 7). -/
def Obligations.PayloadByteOfAFieldResult : Prop :=
  ∀ (s : State) (sp : Span) (b : Byte) (d : FieldDescriptor) (e : Nat),
    selectField s = some (d, e) →
    (s.k = d.lo ∨ buildIs d e s) →
    (gathersBytes d → s.textCap ≠ some (opened d e sp s).fBuf.length) →
    ∃ t, exec (.aPayload b sp) s = .next t ∧ PayloadStep b s t ∧
      (d.kind = .u ∨ d.kind = .s →
        t.fVal = (opened d e sp s).fVal ||| (b.zeroExtend 64 <<< (8 * (s.k.toNat - d.lo.toNat))) ∧
        t.fBuf = (opened d e sp s).fBuf ∧ t.fCnt = (opened d e sp s).fCnt) ∧
      (gathersBytes d →
        t.fVal = (opened d e sp s).fVal ∧ t.fBuf = (opened d e sp s).fBuf ++ [b] ∧ t.fCnt = (opened d e sp s).fCnt + 1) ∧
      (d.kind = .region →
        t.fVal = (opened d e sp s).fVal ∧ t.fBuf = (opened d e sp s).fBuf ∧ t.fCnt = (opened d e sp s).fCnt + 1) ∧
      t.fT0 = (opened d e sp s).fT0 ∧ t.fLo = (opened d e sp s).fLo ∧ t.fHi = (opened d e sp s).fHi ∧
      (s.k.toNat = e →
        t.fValid = false ∧ FromStart (opened d e sp s) (completedLabel d e t.fVal t.fBuf t.fCnt) sp.t1 t.ann ∧
        (d.capture = true → t.dynLen.toNat = t.fVal.toNat % 65536 ∧ t.dynValid = true) ∧
        (d.capture = false → t.dynLen = s.dynLen ∧ t.dynValid = s.dynValid)) ∧
      (s.k.toNat ≠ e →
        t.fValid = (opened d e sp s).fValid ∧ t.ann = none ∧ t.dynLen = s.dynLen ∧ t.dynValid = s.dynValid)

/-- When A.PAYLOAD stops: `PlanMidEntry` and `TextOverflow`, exactly when the rules raise them, and nothing else (R126, R128;
the comparison of `f_hi` in 16 bits is the model's reading, log entry 7). -/
def Obligations.PayloadByteStopsExactlyWhen : Prop :=
  ∀ (s : State) (sp : Span) (b : Byte),
    (exec (.aPayload b sp) s = .refused .planMidEntry ↔
      ∃ d e, selectField s = some (d, e) ∧ s.k ≠ d.lo ∧ ¬ buildIs d e s) ∧
    (exec (.aPayload b sp) s = .refused .textOverflow ↔
      ∃ d e, selectField s = some (d, e) ∧ (s.k = d.lo ∨ buildIs d e s) ∧ gathersBytes d ∧
        s.textCap = some (opened d e sp s).fBuf.length) ∧
    (∀ f, exec (.aPayload b sp) s ≠ .fault f) ∧
    (∀ r, exec (.aPayload b sp) s = .refused r → r = .planMidEntry ∨ r = .textOverflow)

/-- R177, R178, R179, R180: the two checksum bytes. -/
def Obligations.ChecksumRowsOfProtocolAResult : Prop :=
  (∀ (rev : ModuleRev) (sp : Span) (b : Byte) (r : CondRegs),
    byteRow 7 b rev sp r = .ok (if b = r.ckA then .aCkaOk b sp else .aCkaBad b sp) ∧
    byteRow 8 b rev sp r = .ok (if b = r.ckB then .aCkbOk b sp else .aCkbBad b sp)) ∧
  ∀ (s : State) (sp : Span) (b : Byte),
    (∃ t, exec (.aCkaOk b sp) s = .next t ∧ Advanced (.valid .ckA) 8 sp s t) ∧
    (∃ t, exec (.aCkaBad b sp) s = .next t ∧ Resynced .ckA 2 sp s t) ∧
    (∃ t, exec (.aCkbOk b sp) s = .next t ∧ Finished (.valid .ckB) sp s t) ∧
    (∃ t, exec (.aCkbBad b sp) s = .next t ∧ Resynced .ckB 3 sp s t)

/-- R181: a protocol A frame passes exactly with the sums of its window, and is rejected at the first checksum byte that
differs. A run that raises no model fault is meant; with an empty plan none is raised. -/
def Obligations.ProtocolAFrameWindow : Prop :=
  ∀ (s : State) (rest : List Ports) (c i lo hi x y : Byte) (p0 p1 p2 p3 p4 p5 q1 q2 : Span) (payload : List (Byte × Span)),
    s.st = St.idle → s.rom.wf = true → payload.length = lo.toNat + 256 * hi.toNat →
    let body := [(0xB5, p0), (0x62, p1), (c, p2), (i, p3), (lo, p4), (hi, p5)] ++ payload
    let sums := Checksum.fletcher ([c, i, lo, hi] ++ payload.map (·.1))
    (∀ t, runBytes s body rest = .next t → t.st = St.aCka ∧ (t.ckA, t.ckB) = sums) ∧
    (∀ t, runBytes s (body ++ [(x, q1)]) rest = .next t →
      t.ann = some ⟨if x = sums.1 then .valid .ckA else .invalid .ckA, q1.t0, q1.t1⟩ ∧
      t.st = if x = sums.1 then St.aCkb else St.idle) ∧
    (∀ t, x = sums.1 → runBytes s (body ++ [(x, q1), (y, q2)]) rest = .next t →
      t.ann = some ⟨if y = sums.2 then .valid .ckB else .invalid .ckB, q2.t0, q2.t1⟩ ∧ t.st = St.idle) ∧
    (s.rom.romPlan c i = [] → ∃ t, runBytes s (body ++ [(x, q1), (y, q2)]) rest = .next t)

/-! ### The field extractor -/

/-- R121, R122, R123: the first applicable descriptor in declaration order is selected. -/
def Obligations.FirstApplicableDescriptorIsSelected : Prop :=
  ∀ s : State,
    (∀ d e, selectField s = some (d, e) ↔
      ∃ pre post, s.rom.romPlan s.cls s.mid = pre ++ d :: post ∧ Applicable d s e ∧ ∀ x ∈ pre, ∀ e', ¬ Applicable x s e') ∧
    (selectField s = none ↔ ∀ d ∈ s.rom.romPlan s.cls s.mid, ∀ e, ¬ Applicable d s e)

/-- Inserting the bytes of a field at their offsets, first byte first, assembles the little-endian value (R82, R127). -/
def Obligations.IntegerBytesAreLittleEndian : Prop :=
  ∀ bs : List Byte, bs.length ≤ 8 →
    (bs.zipIdx.foldl (fun v x => Operands.insertByte v x.2 x.1) 0).toNat = Nat.ofDigits 256 (bs.map (·.toNat))

/-- R132: `Signed(v, w)` is the two's-complement value of the `8w` bits of `v`. -/
def Obligations.SignedIsTwosComplement : Prop :=
  ∀ (w v : Nat), 1 ≤ w → v < 2 ^ (8 * w) →
    (2 ^ (8 * w - 1) ≤ v → Operands.signed v w = (v : Int) - 2 ^ (8 * w)) ∧
    (v < 2 ^ (8 * w - 1) → Operands.signed v w = v) ∧
    Operands.signed v w = (BitVec.ofNat (8 * w) v).toInt

/-- A field that ends past the declared length is never emitted, and its bytes are still folded (41_field_extractor.md
section 3, R134). -/
def Obligations.CutOffFieldIsNeverEmitted : Prop :=
  ∀ (s t : State) (sp : Span) (b : Byte) (d : FieldDescriptor) (e : Nat),
    selectField s = some (d, e) → s.k.toNat < s.plen.toNat → s.plen.toNat ≤ e → exec (.aPayload b sp) s = .next t →
    t.ann = none ∧ FletcherFolded b s t ∧ t.k.toNat = s.k.toNat + 1

/-- R135: two descriptors that differ in name and revision only give annotations that differ in the name only. -/
def Obligations.RevisionChangesOnlyTheName : Prop :=
  ∀ (s : State) (sp : Span) (b : Byte) (d : FieldDescriptor) (n : String), d.rev = .rev0 →
    s.rom.romPlan s.cls s.mid = [d, { d with name := n, rev := .rev1 }] →
    exec (.aPayload b sp) { s with cfgRev := .rev1 } =
      mapNext (fun t => { t with cfgRev := .rev1, ann := t.ann.map (fun a => { a with label := rename n a.label }) })
        (exec (.aPayload b sp) { s with cfgRev := .rev0 })

/-! ### Protocol B -/

/-- R200, R201: the body and its end delimiter; the one stop of B.BODY is a full buffer. -/
def Obligations.BodyRowsResult : Prop :=
  (∀ (rev : ModuleRev) (sp : Span) (b : Byte) (r : CondRegs),
    byteRow 9 b rev sp r = .ok (if b = 0x2A then .bEndDelim sp else .bBody b sp)) ∧
  ∀ (s : State) (sp : Span) (b : Byte),
    (∃ t, exec (.bEndDelim sp) s = .next t ∧ FromStart s (.sentence s.fBuf) sp.t1 t.ann ∧
      t = { s with st := 10, ann := t.ann }) ∧
    (s.textCap ≠ some s.fBuf.length →
      exec (.bBody b sp) s = .next { s with nx := s.nx ^^^ b, fBuf := s.fBuf ++ [b], ann := none }) ∧
    (s.textCap = some s.fBuf.length → exec (.bBody b sp) s = .refused .textOverflow)

/-- R202, R203, R204, R205: the two checksum characters. -/
def Obligations.ChecksumRowsOfProtocolBResult : Prop :=
  (∀ (rev : ModuleRev) (sp : Span) (b : Byte) (r : CondRegs),
    byteRow 10 b rev sp r = .ok (if b = Operands.hexChar (r.nx.extractLsb' 4 4) then .bCk1Ok b sp else .bCk1Bad b sp) ∧
    byteRow 11 b rev sp r = .ok (if b = Operands.hexChar (r.nx.extractLsb' 0 4) then .bCk2Ok b sp else .bCk2Bad b sp)) ∧
  ∀ (s : State) (sp : Span) (b : Byte),
    (∃ t, exec (.bCk1Ok b sp) s = .next t ∧ Advanced (.valid .nmeaCk1) 11 sp s t) ∧
    (∃ t, exec (.bCk1Bad b sp) s = .next t ∧ Resynced .nmeaCk1 4 sp s t) ∧
    (∃ t, exec (.bCk2Ok b sp) s = .next t ∧ Advanced (.valid .nmeaCk2) 12 sp s t) ∧
    (∃ t, exec (.bCk2Bad b sp) s = .next t ∧ Resynced .nmeaCk2 5 sp s t)

/-- R206, R207, R208, R209: carriage return, then line feed. -/
def Obligations.TerminatorRowsResult : Prop :=
  (∀ (rev : ModuleRev) (sp : Span) (b : Byte) (r : CondRegs),
    byteRow 12 b rev sp r = .ok (if b = 0x0D then .bCrOk sp else .bCrBad b sp) ∧
    byteRow 13 b rev sp r = .ok (if b = 0x0A then .bLfOk sp else .bLfBad b sp)) ∧
  ∀ (s : State) (sp : Span) (b : Byte),
    (∃ t, exec (.bCrOk sp) s = .next t ∧ Advanced (.term .cr) 13 sp s t) ∧
    (∃ t, exec (.bCrBad b sp) s = .next t ∧ Resynced .termCr 6 sp s t) ∧
    (∃ t, exec (.bLfOk sp) s = .next t ∧ Finished (.term .lf) sp s t) ∧
    (∃ t, exec (.bLfBad b sp) s = .next t ∧ Resynced .termLf 7 sp s t)

/-- A protocol B sentence: the body is shown whole at `*` with the XOR of its bytes accumulated, and the sentence completes
exactly with the two characters of that value (44_protocol_b.md, R210); after a mismatch the four bytes may run into a new
sentence and fill a finite buffer, so the run is asked to complete only where they match. -/
def Obligations.ProtocolBSentenceWindow : Prop :=
  ∀ (s : State) (rest : List Ports) (h1 h2 : Byte) (p0 p1 p2 p3 p4 p5 : Span) (body : List (Byte × Span)),
    s.st = St.idle → s.rom.wf = true → (∀ x ∈ body, x.1 ≠ 0x2A) → (∀ n, s.textCap = some n → body.length ≤ n) →
    let bytes := body.map (·.1)
    let x := Checksum.xor8 bytes
    let start := (0x24, p0) :: body ++ [(0x2A, p1)]
    (∃ t, runBytes s start rest = .next t ∧ t.st = St.bCk1 ∧ t.nx = x ∧ t.ann = some ⟨.sentence bytes, p0.t0, p1.t1⟩) ∧
    (∀ u, runBytes s (start ++ [(h1, p2), (h2, p3), (0x0D, p4), (0x0A, p5)]) rest = .next u →
      (shown u = some (.term .lf) ↔
        h1 = Operands.hexChar (x.extractLsb' 4 4) ∧ h2 = Operands.hexChar (x.extractLsb' 0 4)) ∧
      (shown u = some (.term .lf) → u.st = St.idle)) ∧
    (h1 = Operands.hexChar (x.extractLsb' 4 4) → h2 = Operands.hexChar (x.extractLsb' 0 4) →
      ∃ u, runBytes s (start ++ [(h1, p2), (h2, p3), (0x0D, p4), (0x0A, p5)]) rest = .next u)

/-- A flipped bit of the body flips that bit of the XOR, so exactly one of the two expected characters changes
(44_protocol_b.md, R210). -/
def Obligations.FlippedBodyBitChangesOneCharacter : Prop :=
  ∀ (pre post : List Byte) (b : Byte) (j : Nat), j < 8 →
    let x := Checksum.xor8 (pre ++ b :: post)
    let y := Checksum.xor8 (pre ++ (b ^^^ (1#8 <<< j)) :: post)
    y = x ^^^ (1#8 <<< j) ∧
    (Operands.nmeaChar1 x ≠ Operands.nmeaChar1 y ↔ 4 ≤ j) ∧ (Operands.nmeaChar2 x ≠ Operands.nmeaChar2 y ↔ j < 4)

/-! ### Protocol C -/

/-- R220, R221: the protocol C length, 10 bits, with the zero-length transition. -/
def Obligations.LengthRowsOfProtocolCResult : Prop :=
  (∀ (rev : ModuleRev) (sp : Span) (b : Byte) (r : CondRegs),
    byteRow 14 b rev sp r = .ok (.cLen1 b sp) ∧ byteRow 15 b rev sp r = .ok (.cLen2 b sp)) ∧
  ∀ (s : State) (sp : Span) (b : Byte),
    exec (.cLen1 b sp) s = .next { s with
      crc := Checksum.crcFold s.crc b, lenb := b, fT0 := some sp.t0, st := 15, ann := none } ∧
    ∃ t, exec (.cLen2 b sp) s = .next t ∧ t.crc = Checksum.crcFold s.crc b ∧
      t.plen.toNat = (s.lenb.toNat % 4) * 256 + b.toNat ∧ t.k = 0 ∧ t.rem = t.plen ∧
      FromStart s (.length t.plen) sp.t1 t.ann ∧
      t.st = (if s.lenb.toNat % 4 = 0 ∧ b = 0 then 19 else 16) ∧
      t = { s with crc := t.crc, plen := t.plen, k := t.k, rem := t.rem, st := t.st, ann := t.ann }

/-- R222, R223: the 12-bit type; a one-byte payload; the start of a subtype. -/
def Obligations.TypeRowsResult : Prop :=
  (∀ (rev : ModuleRev) (sp : Span) (b : Byte) (r : CondRegs),
    byteRow 16 b rev sp r = .ok (.cType1 b sp) ∧ byteRow 17 b rev sp r = .ok (.cType2 b sp)) ∧
  ∀ (s : State) (sp : Span) (b : Byte),
    (∃ t, exec (.cType1 b sp) s = .next t ∧ t.crc = Checksum.crcFold s.crc b ∧ t.cType.toNat = b.toNat * 16 ∧
      t.k = s.k + 1 ∧ t.rem = s.rem - 1 ∧
      (s.rem = 1 → t.ann = some ⟨.hex b, sp.t0, sp.t1⟩ ∧ t.st = 19 ∧ t.fT0 = s.fT0) ∧
      (s.rem ≠ 1 → t.ann = none ∧ t.st = 17 ∧ t.fT0 = some sp.t0) ∧
      t = { s with
        crc := t.crc, cType := t.cType, k := t.k, rem := t.rem, fT0 := t.fT0, st := t.st, ann := t.ann }) ∧
    (∃ t, exec (.cType2 b sp) s = .next t ∧ t.crc = Checksum.crcFold s.crc b ∧
      t.cType.toNat = s.cType.toNat ||| (b.toNat / 16) ∧
      FromStart s (.type t.cType) sp.t1 t.ann ∧ t.k = s.k + 1 ∧ t.rem = s.rem - 1 ∧
      (t.cType ∈ s.subTypes ∧ 1 ≤ t.rem.toNat →
        t.cSub.toNat = b.toNat % 16 ∧ t.subPend = true ∧ t.fT0 = some sp.t0) ∧
      (¬ (t.cType ∈ s.subTypes ∧ 1 ≤ t.rem.toNat) → t.cSub = s.cSub ∧ t.subPend = s.subPend ∧ t.fT0 = s.fT0) ∧
      t.st = (if s.rem = 1 then 19 else 18) ∧
      t = { s with
        crc := t.crc, cType := t.cType, k := t.k, rem := t.rem, cSub := t.cSub, subPend := t.subPend, fT0 := t.fT0,
        st := t.st, ann := t.ann })

/-- R224, R225: the subtype byte and the plain payload bytes. The 12 bits of `c_sub` are those of the register (R33). -/
def Obligations.PayloadRowsOfProtocolCResult : Prop :=
  (∀ (rev : ModuleRev) (sp : Span) (b : Byte) (r : CondRegs),
    byteRow 18 b rev sp r = .ok (if r.subPend = true then .cSubtype b sp else .cPayload b sp)) ∧
  ∀ (s : State) (sp : Span) (b : Byte),
    (∃ t, exec (.cSubtype b sp) s = .next t ∧ t.crc = Checksum.crcFold s.crc b ∧
      t.cSub.toNat = (s.cSub.toNat % 16) * 256 + b.toNat ∧ t.subPend = false ∧
      FromStart s (.subtype t.cSub) sp.t1 t.ann ∧ t.k = s.k + 1 ∧ t.rem = s.rem - 1 ∧
      t.st = (if s.rem = 1 then 19 else s.st) ∧
      t = { s with
        crc := t.crc, cSub := t.cSub, subPend := t.subPend, k := t.k, rem := t.rem, st := t.st, ann := t.ann }) ∧
    (∃ t, exec (.cPayload b sp) s = .next t ∧ t.crc = Checksum.crcFold s.crc b ∧
      t.ann = some ⟨.hex b, sp.t0, sp.t1⟩ ∧ t.k = s.k + 1 ∧ t.rem = s.rem - 1 ∧
      t.st = (if s.rem = 1 then 19 else s.st) ∧
      t = { s with crc := t.crc, k := t.k, rem := t.rem, st := t.st, ann := t.ann })

/-- R226 to R231: the three CRC bytes, most significant first. -/
def Obligations.CrcRowsResult : Prop :=
  (∀ (rev : ModuleRev) (sp : Span) (b : Byte) (r : CondRegs),
    byteRow 19 b rev sp r = .ok (if b.toNat = r.crc.toNat / 65536 then .cCrc1Ok b sp else .cCrc1Bad b sp) ∧
    byteRow 20 b rev sp r = .ok (if b.toNat = r.crc.toNat / 256 % 256 then .cCrc2Ok b sp else .cCrc2Bad b sp) ∧
    byteRow 21 b rev sp r = .ok (if b.toNat = r.crc.toNat % 256 then .cCrc3Ok b sp else .cCrc3Bad b sp)) ∧
  ∀ (s : State) (sp : Span) (b : Byte),
    (∃ t, exec (.cCrc1Ok b sp) s = .next t ∧ Advanced (.valid .crc1) 20 sp s t) ∧
    (∃ t, exec (.cCrc1Bad b sp) s = .next t ∧ Resynced .crc1 8 sp s t) ∧
    (∃ t, exec (.cCrc2Ok b sp) s = .next t ∧ Advanced (.valid .crc2) 21 sp s t) ∧
    (∃ t, exec (.cCrc2Bad b sp) s = .next t ∧ Resynced .crc2 9 sp s t) ∧
    (∃ t, exec (.cCrc3Ok b sp) s = .next t ∧ Finished (.valid .crc3) sp s t) ∧
    (∃ t, exec (.cCrc3Bad b sp) s = .next t ∧ Resynced .crc3 10 sp s t)

/-- A protocol C frame reaches its first CRC byte with the CRC of its window, and completes exactly with the three bytes of
that value, most significant first (45_protocol_c.md, R232). -/
def Obligations.ProtocolCFrameWindow : Prop :=
  ∀ (s : State) (rest : List Ports) (l1 l2 x y z : Byte) (p0 p1 p2 q1 q2 q3 : Span) (payload : List (Byte × Span)),
    s.st = St.idle → s.subPend = false → s.rom.wf = true → payload.length = (l1.toNat % 4) * 256 + l2.toNat →
    let body := [(0xD3, p0), (l1, p1), (l2, p2)] ++ payload
    let crc := Checksum.crc24q ([0xD3, l1, l2] ++ payload.map (·.1))
    (∃ t, runBytes s body rest = .next t ∧ t.st = St.cCrc1 ∧ t.crc = crc) ∧
    (∀ u, runBytes s (body ++ [(x, q1), (y, q2), (z, q3)]) rest = .next u →
      (shown u = some (.valid .crc3) ↔ x.toNat * 65536 + y.toNat * 256 + z.toNat = crc.toNat) ∧
      (shown u = some (.valid .crc3) → u.st = St.idle)) ∧
    (x.toNat * 65536 + y.toNat * 256 + z.toNat = crc.toNat →
      ∃ u, runBytes s (body ++ [(x, q1), (y, q2), (z, q3)]) rest = .next u)

/-! ### The checksum engines -/

/-- R100, R101, R103, R104, R108: the engine operations on the registers, in numbers, and nothing else written. -/
def Obligations.EngineOperationsOnRegisters : Prop :=
  ∀ (s : State) (b : Byte),
    s.resetFletcher = { s with ckA := 0, ckB := 0 } ∧
    (FletcherFolded b s (s.foldFletcher b) ∧
      s.foldFletcher b = { s with ckA := (s.foldFletcher b).ckA, ckB := (s.foldFletcher b).ckB }) ∧
    s.resetXor = { s with nx := 0 } ∧
    ((s.foldXor b).nx.toNat = Nat.xor s.nx.toNat b.toNat ∧ s.foldXor b = { s with nx := (s.foldXor b).nx } ∧
      ((s.foldXor b).foldXor b) = s) ∧
    s.resetCrc = { s with crc := 0 }

/-- The additive engine over a string: the plain sum and the sum of running sums (R101, R113). -/
def Obligations.FletcherOfAStringInClosedForm : Prop :=
  ∀ bs : List Byte,
    (Checksum.fletcher bs).1.toNat = (bs.map (·.toNat)).sum % 256 ∧
    (Checksum.fletcher bs).2.toNat = (bs.zipIdx.map (fun x => (bs.length - x.2) * x.1.toNat)).sum % 256

/-- R107: `HexChar` in numbers, the characters it gives, and the two expected characters, high nibble first. -/
def Obligations.HexCharGivesUppercaseHexDigits : Prop :=
  (∀ nx : Byte,
    Operands.nmeaChar1 nx = Operands.hexChar (BitVec.ofNat 4 (nx.toNat / 16)) ∧
    Operands.nmeaChar2 nx = Operands.hexChar (BitVec.ofNat 4 (nx.toNat % 16))) ∧
  ∀ n : BitVec 4,
    (n.toNat < 10 → (Operands.hexChar n).toNat = 0x30 + n.toNat) ∧
    (10 ≤ n.toNat → (Operands.hexChar n).toNat = 0x30 + n.toNat + 7) ∧
    Operands.hexChar n ∈ "0123456789ABCDEF".toList.map (fun c => BitVec.ofNat 8 c.toNat)

/-- R109: `FoldCrc` is eight rounds of shift, conditional XOR with the polynomial, and mask, written in numbers. -/
def Obligations.FoldCrcIsEightRounds : Prop :=
  (∀ c : BitVec 24, (Checksum.crcRound c).toNat =
    (if 2 ^ 24 ≤ 2 * c.toNat then Nat.xor (2 * c.toNat) 0x1864CFB else 2 * c.toNat) % 2 ^ 24) ∧
  (∀ (c : BitVec 24) (b : Byte) (s : State),
    Checksum.crcFold c b = (Checksum.crcRound)^[8] (BitVec.ofNat 24 (Nat.xor c.toNat (b.toNat * 2 ^ 16))) ∧
    s.foldCrc b = { s with crc := Checksum.crcFold s.crc b })

/-- The CRC engine is linear over XOR, so the CRC of two strings of one length differs by the CRC of their difference (from
R109). -/
def Obligations.CrcFoldIsLinear : Prop :=
  ∀ (c d : BitVec 24) (a b : Byte),
    Checksum.crcFold (c ^^^ d) (a ^^^ b) = Checksum.crcFold c a ^^^ Checksum.crcFold d b

/-- Corrupting one byte of a string changes its CRC (from R109; the source asks for it on vectors, R232 and E3). -/
def Obligations.OneCorruptedByteChangesTheCrc : Prop :=
  ∀ (pre post : List Byte) (a b : Byte), a ≠ b →
    Checksum.crc24q (pre ++ a :: post) ≠ Checksum.crc24q (pre ++ b :: post)

/-! ### Whole-machine invariants -/

/-- The invariant holds at reset. -/
def Obligations.InvariantHoldsAtReset : Prop := State.reset.Inv

/-- Every step keeps the invariant (R21, R28, R29, R31, R37, R39, R112). -/
def Obligations.EveryStepKeepsTheInvariant : Prop :=
  ∀ s t : State, s.Inv → step s = .next t → t.Inv

/-- Timestamps are passed through and never compared: renaming every timestamp commutes with the step (20_memory.md, R62). -/
def Obligations.TimestampsArePassedThrough : Prop :=
  ∀ (f : TS → TS) (s : State), s.Inv → step (s.mapTs f) = mapNext (State.mapTs f) (step s)

/-- With an unbounded text buffer the block never stops on a byte, an abort, a reset or an idle step, but for a payload byte
that enters a field in its middle (60_exceptions.md, R256; the exception is R126). -/
def Obligations.BlockNeverStopsButForMidEntry : Prop :=
  ∀ (s : State) (p : Ports) (rest : List Ports), s.Inv → s.rom.wf = true → s.textCap = none → s.inp = p :: rest →
    (p.rst = true ∨ (p.cfgRev = s.cfgRev ∧ (p.evValid = false ∨ p.evKind.toNat < 2))) →
    (∃ t, step s = .next t) ∨
    (s.st = St.aPayload ∧ p.rst = false ∧ p.evKind = kindByte ∧ step s = .refused .planMidEntry)

/-! ### The parameters -/

/-- The parameters of 00_scope.md R7 are arguments: the block at power-on holds each, in the reset state; and reading the
timestamps of the samples through any function into any type, with any rendering, reads those of the annotations through it
and changes nothing else. That the ROM is the argument `REGISTRY` whole, with or without the ACK entries of R56, is the model's
choice (log entry 20); the form of the parameters is the model's too (log entries 1, 4 and 15). -/
def Obligations.ParametersAreArguments : Prop :=
  ∀ (P : Parameters) (samples : List (PortsOf P.TS)),
    (FrameCleared (P.powerOn samples) ∧ (P.powerOn samples).st = St.idle ∧ (P.powerOn samples).cfgRev = P.moduleRev ∧
      (P.powerOn samples).rom = P.registry ∧ (P.powerOn samples).textCap = P.textCap ∧
      (P.powerOn samples).subTypes = P.subTypes ∧ (P.powerOn samples).inp.length = samples.length) ∧
    ∀ (U : Type) (g : P.TS → U) (render : Label → List Byte),
      Parameters.annotations ⟨U, g P.unset, P.moduleRev, P.registry, P.textCap, P.subTypes, render⟩
        (samples.map (PortsOf.mapTs g)) = (P.annotations samples).map (Option.map (AnnotationOf.mapTs g))

/-- Naming the timestamps by naturals loses nothing (log entry 1): where the argument `TS` is itself the naturals, the run over
the parameters shows what the block shows on the samples as they are, for every revision, ROM (with or without the ACK entries
of R56, the model's choice, log entry 20), capacity and subtype set. -/
def Obligations.RunOverParametersIsTheRunOfTheBlock : Prop :=
  ∀ (unset : TS) (rev : ModuleRev) (g : Registry) (cap : Option Nat) (sub : List (BitVec 12)) (render : Label → List Byte)
    (samples : List Ports),
    Parameters.annotations ⟨TS, unset, rev, g, cap, sub, render⟩ samples =
      trace samples.length { State.reset with cfgRev := rev, rom := g, textCap := cap, subTypes := sub, inp := samples }
end

