-- ==== Sys2Proof/Laws/Checksum.lean ====
section
/-! SUPPORT. The engines over strings: seeds and how a string splits (rules R100 to R113). -/

namespace Sys2Proof.Checksum

theorem fletcher_append (xs ys : List Byte) : fletcher (xs ++ ys) = ys.foldl fletcherFold (fletcher xs) := by
  simp [fletcher]

theorem xor8_append (xs ys : List Byte) : xor8 (xs ++ ys) = ys.foldl xorFold (xor8 xs) := by
  simp [xor8]

theorem crc24q_append (xs ys : List Byte) : crc24q (xs ++ ys) = ys.foldl crcFold (crc24q xs) := by
  simp [crc24q]

theorem xor8_concat (xs : List Byte) (b : Byte) : xor8 (xs ++ [b]) = xor8 xs ^^^ b := by
  simp [xor8_append, xorFold]

theorem crc24q_concat (xs : List Byte) (b : Byte) : crc24q (xs ++ [b]) = crcFold (crc24q xs) b := by
  simp [crc24q_append]

theorem fletcher_concat (xs : List Byte) (b : Byte) : fletcher (xs ++ [b]) = fletcherFold (fletcher xs) b := by
  simp [fletcher_append]

end Sys2Proof.Checksum
end

