-- ==== Sys2Proof/Laws/Decode.lean ====
section
/-! SUPPORT. The fields of the decode word (rule R74), and the decoder by inversion. -/

namespace Sys2Proof

@[simp] theorem wordState_packWord (kind : BitVec 2) (st : BitVec 5) (b : Byte) : wordState (packWord kind st b) = st := by
  apply BitVec.eq_of_getLsbD_eq
  intro i hi
  simp only [wordState, packWord, BitVec.getLsbD_extractLsb', BitVec.getLsbD_append]
  have h1 : ¬ 8 + i < 8 := by omega
  have h2 : 8 + i - 8 = i := by omega
  simp [h1, h2, hi]

@[simp] theorem wordByte_packWord (kind : BitVec 2) (st : BitVec 5) (b : Byte) : wordByte (packWord kind st b) = b := by
  apply BitVec.eq_of_getLsbD_eq
  intro i hi
  simp only [wordByte, packWord, BitVec.getLsbD_extractLsb', BitVec.getLsbD_append]
  simp [hi]

@[simp] theorem kind_packWord (kind : BitVec 2) (st : BitVec 5) (b : Byte) :
    (packWord kind st b).extractLsb' 14 2 = kind := by
  apply BitVec.eq_of_getLsbD_eq
  intro i hi
  simp only [packWord, BitVec.getLsbD_extractLsb', BitVec.getLsbD_append]
  have h1 : ¬ 14 + i < 8 := by omega
  have h2 : ¬ 14 + i - 8 < 5 := by omega
  have h3 : ¬ 14 + i - 8 - 5 < 1 := by omega
  have h4 : 14 + i - 8 - 5 - 1 = i := by omega
  simp [h1, h2, h3, h4, hi]

/-- `W[13] = 0` in every word the block forms (R74). -/
@[simp] theorem bit13_packWord (kind : BitVec 2) (st : BitVec 5) (b : Byte) : (packWord kind st b).getLsbD 13 = false := by
  simp only [packWord, BitVec.getLsbD_append]
  simp

@[simp] theorem bit13_formWord (kind : BitVec 2) (st : BitVec 5) (b : Byte) : (formWord kind st b).getLsbD 13 = false :=
  bit13_packWord _ _ _

@[simp] theorem wordState_formWord (kind : BitVec 2) (st : BitVec 5) (b : Byte) : wordState (formWord kind st b) = st :=
  wordState_packWord _ _ _

/-- The byte field of a formed word: the byte, or 0x00 for `ABORT` (R74). -/
theorem wordByte_formWord (kind : BitVec 2) (st : BitVec 5) (b : Byte) :
    wordByte (formWord kind st b) = if kind = kindAbort then 0 else b :=
  wordByte_packWord _ _ _

@[simp] theorem formWord_byte (st : BitVec 5) (b : Byte) : formWord kindByte st b = packWord kindByte st b := by
  simp [formWord, kindByte, kindAbort]

@[simp] theorem formWord_abort (st : BitVec 5) (b : Byte) : formWord kindAbort st b = packWord kindAbort st 0 := by
  simp [formWord]

/-- A word of fixed kind and state under the mask 0xFF00. -/
theorem packWord_and_high (kind : BitVec 2) (st : BitVec 5) (b : Byte) :
    packWord kind st b &&& 0xFF00 = packWord kind st 0 := by
  apply BitVec.eq_of_getLsbD_eq
  intro i hi
  simp only [packWord, BitVec.getLsbD_and, BitVec.getLsbD_append]
  interval_cases i <;> simp

/-- A word under the mask 0x8000: its high kind bit. -/
theorem packWord_and_top (kind : BitVec 2) (st : BitVec 5) (b : Byte) :
    packWord kind st b &&& 0x8000 = packWord (kind &&& 0b10) 0 0 := by
  apply BitVec.eq_of_getLsbD_eq
  intro i hi
  simp only [packWord, BitVec.getLsbD_and, BitVec.getLsbD_append]
  interval_cases i <;> simp

/-- A word under the mask 0xE0FF: its kind and byte. -/
theorem packWord_and_kindByte (kind : BitVec 2) (st : BitVec 5) (b : Byte) :
    packWord kind st b &&& 0xE0FF = packWord kind 0 b := by
  apply BitVec.eq_of_getLsbD_eq
  intro i hi
  simp only [packWord, BitVec.getLsbD_and, BitVec.getLsbD_append]
  interval_cases i <;> simp

/-- A word under the mask 0xFFFF: itself. -/
theorem packWord_and_all (kind : BitVec 2) (st : BitVec 5) (b : Byte) : packWord kind st b &&& 0xFFFF = packWord kind st b :=
  BitVec.and_allOnes

/-- The fields of a word determine it and are determined by it (R74). -/
theorem packWord_inj {kind kind' : BitVec 2} {st st' : BitVec 5} {b b' : Byte} :
    packWord kind st b = packWord kind' st' b' ↔ kind = kind' ∧ st = st' ∧ b = b' := by
  constructor
  · intro h
    have hk := congrArg (BitVec.extractLsb' 14 2) h
    have hs := congrArg wordState h
    have hb := congrArg wordByte h
    simp only [kind_packWord, wordState_packWord, wordByte_packWord] at hk hs hb
    exact ⟨hk, hs, hb⟩
  · rintro ⟨rfl, rfl, rfl⟩
    rfl

/-- Every word with `W[13] = 0` is packed from its fields (R74). -/
theorem eq_packWord (w : BitVec 16) (h : w.getLsbD 13 = false) : w = packWord (w.extractLsb' 14 2) (wordState w) (wordByte w) := by
  apply BitVec.eq_of_getLsbD_eq
  intro i hi
  simp only [packWord, wordState, wordByte, BitVec.getLsbD_append, BitVec.getLsbD_extractLsb']
  interval_cases i <;> simp_all

/-- The first selected row of a list of rows. -/
def firstRow (e : EventWord) (r : CondRegs) (l : List Row) : Except DecodeError Instr :=
  match l.find? (fun row => row.selects e r) with
  | some row => .ok (row.build e)
  | none => .error .noRow

@[simp] theorem firstRow_nil (e : EventWord) (r : CondRegs) : firstRow e r [] = .error .noRow := rfl

/-- First match (R74): the rows are tried one after another. -/
theorem firstRow_cons (e : EventWord) (r : CondRegs) (row : Row) (l : List Row) :
    firstRow e r (row :: l) = if row.selects e r = true then .ok (row.build e) else firstRow e r l := by
  unfold firstRow
  rw [List.find?_cons]
  by_cases h : row.selects e r = true <;> simp [h]

/-- The decoder on a word the block forms is the first selected row. -/
theorem decode_packWord (rst : Bool) (rev : ModuleRev) (kind : BitVec 2) (st : BitVec 5) (b : Byte) (sp : Span) (r : CondRegs) :
    decode ⟨rst, rev, packWord kind st b, sp⟩ r = firstRow ⟨rst, rev, packWord kind st b, sp⟩ r rows := by
  unfold decode
  simp only [bit13_packWord, Bool.and_false]
  rfl

/-- What the decoder accepts: a row of the table that is selected, and no row before it (R74). -/
theorem decode_ok {e : EventWord} {r : CondRegs} {i : Instr} (h : decode e r = .ok i) :
    ∃ row, rows.find? (fun row => row.selects e r) = some row ∧ row ∈ rows ∧ row.selects e r = true ∧ i = row.build e ∧
      (e.rst = false → e.w.getLsbD 13 = false) := by
  unfold decode at h
  split at h
  · cases h
  · rename_i hb
    split at h
    · rename_i row hf
      cases h
      refine ⟨row, hf, List.mem_of_find?_eq_some hf, by simpa using List.find?_some hf, rfl, ?_⟩
      intro hr
      simpa [hr] using hb
    · cases h

/-- `rst = 1` selects RESET, whatever the event (R150). -/
theorem decode_rst (e : EventWord) (r : CondRegs) (h : e.rst = true) : decode e r = .ok (.reset e.rev) := by
  simp [decode, rows, rowsReset, Row.selects, Cond.holds, h]

end Sys2Proof
end

