-- ==== Sys2Proof/Laws/State.lean ====
section
/-! SUPPORT. Projections of the shared operations: one lemma per field per operation, true by rfl, so that no later proof
unfolds a record update. -/

namespace Sys2Proof.Machine

variable (s : State)

@[simp] theorem State.quiet_st : s.quiet.st = s.st := rfl
@[simp] theorem State.quiet_ckA : s.quiet.ckA = s.ckA := rfl
@[simp] theorem State.quiet_ckB : s.quiet.ckB = s.ckB := rfl
@[simp] theorem State.quiet_nx : s.quiet.nx = s.nx := rfl
@[simp] theorem State.quiet_crc : s.quiet.crc = s.crc := rfl
@[simp] theorem State.quiet_cls : s.quiet.cls = s.cls := rfl
@[simp] theorem State.quiet_mid : s.quiet.mid = s.mid := rfl
@[simp] theorem State.quiet_lenb : s.quiet.lenb = s.lenb := rfl
@[simp] theorem State.quiet_plen : s.quiet.plen = s.plen := rfl
@[simp] theorem State.quiet_k : s.quiet.k = s.k := rfl
@[simp] theorem State.quiet_rem : s.quiet.rem = s.rem := rfl
@[simp] theorem State.quiet_fVal : s.quiet.fVal = s.fVal := rfl
@[simp] theorem State.quiet_fT0 : s.quiet.fT0 = s.fT0 := rfl
@[simp] theorem State.quiet_fLo : s.quiet.fLo = s.fLo := rfl
@[simp] theorem State.quiet_fHi : s.quiet.fHi = s.fHi := rfl
@[simp] theorem State.quiet_fValid : s.quiet.fValid = s.fValid := rfl
@[simp] theorem State.quiet_fBuf : s.quiet.fBuf = s.fBuf := rfl
@[simp] theorem State.quiet_fCnt : s.quiet.fCnt = s.fCnt := rfl
@[simp] theorem State.quiet_dynLen : s.quiet.dynLen = s.dynLen := rfl
@[simp] theorem State.quiet_dynValid : s.quiet.dynValid = s.dynValid := rfl
@[simp] theorem State.quiet_cType : s.quiet.cType = s.cType := rfl
@[simp] theorem State.quiet_cSub : s.quiet.cSub = s.cSub := rfl
@[simp] theorem State.quiet_subPend : s.quiet.subPend = s.subPend := rfl
@[simp] theorem State.quiet_cfgRev : s.quiet.cfgRev = s.cfgRev := rfl
@[simp] theorem State.quiet_rom : s.quiet.rom = s.rom := rfl
@[simp] theorem State.quiet_textCap : s.quiet.textCap = s.textCap := rfl
@[simp] theorem State.quiet_subTypes : s.quiet.subTypes = s.subTypes := rfl
@[simp] theorem State.quiet_inp : s.quiet.inp = s.inp := rfl
@[simp] theorem State.quiet_ann : s.quiet.ann = none := rfl

@[simp] theorem State.emit_st (l : Label) (ta te : TS) : (s.emit l ta te).st = s.st := rfl
@[simp] theorem State.emit_ckA (l : Label) (ta te : TS) : (s.emit l ta te).ckA = s.ckA := rfl
@[simp] theorem State.emit_ckB (l : Label) (ta te : TS) : (s.emit l ta te).ckB = s.ckB := rfl
@[simp] theorem State.emit_nx (l : Label) (ta te : TS) : (s.emit l ta te).nx = s.nx := rfl
@[simp] theorem State.emit_crc (l : Label) (ta te : TS) : (s.emit l ta te).crc = s.crc := rfl
@[simp] theorem State.emit_cls (l : Label) (ta te : TS) : (s.emit l ta te).cls = s.cls := rfl
@[simp] theorem State.emit_mid (l : Label) (ta te : TS) : (s.emit l ta te).mid = s.mid := rfl
@[simp] theorem State.emit_lenb (l : Label) (ta te : TS) : (s.emit l ta te).lenb = s.lenb := rfl
@[simp] theorem State.emit_plen (l : Label) (ta te : TS) : (s.emit l ta te).plen = s.plen := rfl
@[simp] theorem State.emit_k (l : Label) (ta te : TS) : (s.emit l ta te).k = s.k := rfl
@[simp] theorem State.emit_rem (l : Label) (ta te : TS) : (s.emit l ta te).rem = s.rem := rfl
@[simp] theorem State.emit_fVal (l : Label) (ta te : TS) : (s.emit l ta te).fVal = s.fVal := rfl
@[simp] theorem State.emit_fT0 (l : Label) (ta te : TS) : (s.emit l ta te).fT0 = s.fT0 := rfl
@[simp] theorem State.emit_fLo (l : Label) (ta te : TS) : (s.emit l ta te).fLo = s.fLo := rfl
@[simp] theorem State.emit_fHi (l : Label) (ta te : TS) : (s.emit l ta te).fHi = s.fHi := rfl
@[simp] theorem State.emit_fValid (l : Label) (ta te : TS) : (s.emit l ta te).fValid = s.fValid := rfl
@[simp] theorem State.emit_fBuf (l : Label) (ta te : TS) : (s.emit l ta te).fBuf = s.fBuf := rfl
@[simp] theorem State.emit_fCnt (l : Label) (ta te : TS) : (s.emit l ta te).fCnt = s.fCnt := rfl
@[simp] theorem State.emit_dynLen (l : Label) (ta te : TS) : (s.emit l ta te).dynLen = s.dynLen := rfl
@[simp] theorem State.emit_dynValid (l : Label) (ta te : TS) : (s.emit l ta te).dynValid = s.dynValid := rfl
@[simp] theorem State.emit_cType (l : Label) (ta te : TS) : (s.emit l ta te).cType = s.cType := rfl
@[simp] theorem State.emit_cSub (l : Label) (ta te : TS) : (s.emit l ta te).cSub = s.cSub := rfl
@[simp] theorem State.emit_subPend (l : Label) (ta te : TS) : (s.emit l ta te).subPend = s.subPend := rfl
@[simp] theorem State.emit_cfgRev (l : Label) (ta te : TS) : (s.emit l ta te).cfgRev = s.cfgRev := rfl
@[simp] theorem State.emit_rom (l : Label) (ta te : TS) : (s.emit l ta te).rom = s.rom := rfl
@[simp] theorem State.emit_textCap (l : Label) (ta te : TS) : (s.emit l ta te).textCap = s.textCap := rfl
@[simp] theorem State.emit_subTypes (l : Label) (ta te : TS) : (s.emit l ta te).subTypes = s.subTypes := rfl
@[simp] theorem State.emit_inp (l : Label) (ta te : TS) : (s.emit l ta te).inp = s.inp := rfl
@[simp] theorem State.emit_ann (l : Label) (ta te : TS) : (s.emit l ta te).ann = some ⟨l, ta, te⟩ := rfl

@[simp] theorem State.goto_st (code : BitVec 5) : (s.goto code).st = code := rfl
@[simp] theorem State.goto_ckA (code : BitVec 5) : (s.goto code).ckA = s.ckA := rfl
@[simp] theorem State.goto_ckB (code : BitVec 5) : (s.goto code).ckB = s.ckB := rfl
@[simp] theorem State.goto_nx (code : BitVec 5) : (s.goto code).nx = s.nx := rfl
@[simp] theorem State.goto_crc (code : BitVec 5) : (s.goto code).crc = s.crc := rfl
@[simp] theorem State.goto_cls (code : BitVec 5) : (s.goto code).cls = s.cls := rfl
@[simp] theorem State.goto_mid (code : BitVec 5) : (s.goto code).mid = s.mid := rfl
@[simp] theorem State.goto_lenb (code : BitVec 5) : (s.goto code).lenb = s.lenb := rfl
@[simp] theorem State.goto_plen (code : BitVec 5) : (s.goto code).plen = s.plen := rfl
@[simp] theorem State.goto_k (code : BitVec 5) : (s.goto code).k = s.k := rfl
@[simp] theorem State.goto_rem (code : BitVec 5) : (s.goto code).rem = s.rem := rfl
@[simp] theorem State.goto_fVal (code : BitVec 5) : (s.goto code).fVal = s.fVal := rfl
@[simp] theorem State.goto_fT0 (code : BitVec 5) : (s.goto code).fT0 = s.fT0 := rfl
@[simp] theorem State.goto_fLo (code : BitVec 5) : (s.goto code).fLo = s.fLo := rfl
@[simp] theorem State.goto_fHi (code : BitVec 5) : (s.goto code).fHi = s.fHi := rfl
@[simp] theorem State.goto_fValid (code : BitVec 5) : (s.goto code).fValid = s.fValid := rfl
@[simp] theorem State.goto_fBuf (code : BitVec 5) : (s.goto code).fBuf = s.fBuf := rfl
@[simp] theorem State.goto_fCnt (code : BitVec 5) : (s.goto code).fCnt = s.fCnt := rfl
@[simp] theorem State.goto_dynLen (code : BitVec 5) : (s.goto code).dynLen = s.dynLen := rfl
@[simp] theorem State.goto_dynValid (code : BitVec 5) : (s.goto code).dynValid = s.dynValid := rfl
@[simp] theorem State.goto_cType (code : BitVec 5) : (s.goto code).cType = s.cType := rfl
@[simp] theorem State.goto_cSub (code : BitVec 5) : (s.goto code).cSub = s.cSub := rfl
@[simp] theorem State.goto_subPend (code : BitVec 5) : (s.goto code).subPend = s.subPend := rfl
@[simp] theorem State.goto_cfgRev (code : BitVec 5) : (s.goto code).cfgRev = s.cfgRev := rfl
@[simp] theorem State.goto_rom (code : BitVec 5) : (s.goto code).rom = s.rom := rfl
@[simp] theorem State.goto_textCap (code : BitVec 5) : (s.goto code).textCap = s.textCap := rfl
@[simp] theorem State.goto_subTypes (code : BitVec 5) : (s.goto code).subTypes = s.subTypes := rfl
@[simp] theorem State.goto_inp (code : BitVec 5) : (s.goto code).inp = s.inp := rfl
@[simp] theorem State.goto_ann (code : BitVec 5) : (s.goto code).ann = s.ann := rfl

@[simp] theorem State.markStart_st (sp : Span) : (s.markStart sp).st = s.st := rfl
@[simp] theorem State.markStart_ckA (sp : Span) : (s.markStart sp).ckA = s.ckA := rfl
@[simp] theorem State.markStart_ckB (sp : Span) : (s.markStart sp).ckB = s.ckB := rfl
@[simp] theorem State.markStart_nx (sp : Span) : (s.markStart sp).nx = s.nx := rfl
@[simp] theorem State.markStart_crc (sp : Span) : (s.markStart sp).crc = s.crc := rfl
@[simp] theorem State.markStart_cls (sp : Span) : (s.markStart sp).cls = s.cls := rfl
@[simp] theorem State.markStart_mid (sp : Span) : (s.markStart sp).mid = s.mid := rfl
@[simp] theorem State.markStart_lenb (sp : Span) : (s.markStart sp).lenb = s.lenb := rfl
@[simp] theorem State.markStart_plen (sp : Span) : (s.markStart sp).plen = s.plen := rfl
@[simp] theorem State.markStart_k (sp : Span) : (s.markStart sp).k = s.k := rfl
@[simp] theorem State.markStart_rem (sp : Span) : (s.markStart sp).rem = s.rem := rfl
@[simp] theorem State.markStart_fVal (sp : Span) : (s.markStart sp).fVal = s.fVal := rfl
@[simp] theorem State.markStart_fT0 (sp : Span) : (s.markStart sp).fT0 = some sp.t0 := rfl
@[simp] theorem State.markStart_fLo (sp : Span) : (s.markStart sp).fLo = s.fLo := rfl
@[simp] theorem State.markStart_fHi (sp : Span) : (s.markStart sp).fHi = s.fHi := rfl
@[simp] theorem State.markStart_fValid (sp : Span) : (s.markStart sp).fValid = s.fValid := rfl
@[simp] theorem State.markStart_fBuf (sp : Span) : (s.markStart sp).fBuf = s.fBuf := rfl
@[simp] theorem State.markStart_fCnt (sp : Span) : (s.markStart sp).fCnt = s.fCnt := rfl
@[simp] theorem State.markStart_dynLen (sp : Span) : (s.markStart sp).dynLen = s.dynLen := rfl
@[simp] theorem State.markStart_dynValid (sp : Span) : (s.markStart sp).dynValid = s.dynValid := rfl
@[simp] theorem State.markStart_cType (sp : Span) : (s.markStart sp).cType = s.cType := rfl
@[simp] theorem State.markStart_cSub (sp : Span) : (s.markStart sp).cSub = s.cSub := rfl
@[simp] theorem State.markStart_subPend (sp : Span) : (s.markStart sp).subPend = s.subPend := rfl
@[simp] theorem State.markStart_cfgRev (sp : Span) : (s.markStart sp).cfgRev = s.cfgRev := rfl
@[simp] theorem State.markStart_rom (sp : Span) : (s.markStart sp).rom = s.rom := rfl
@[simp] theorem State.markStart_textCap (sp : Span) : (s.markStart sp).textCap = s.textCap := rfl
@[simp] theorem State.markStart_subTypes (sp : Span) : (s.markStart sp).subTypes = s.subTypes := rfl
@[simp] theorem State.markStart_inp (sp : Span) : (s.markStart sp).inp = s.inp := rfl
@[simp] theorem State.markStart_ann (sp : Span) : (s.markStart sp).ann = s.ann := rfl

@[simp] theorem State.resetFletcher_st : s.resetFletcher.st = s.st := rfl
@[simp] theorem State.resetFletcher_ckA : s.resetFletcher.ckA = 0 := rfl
@[simp] theorem State.resetFletcher_ckB : s.resetFletcher.ckB = 0 := rfl
@[simp] theorem State.resetFletcher_nx : s.resetFletcher.nx = s.nx := rfl
@[simp] theorem State.resetFletcher_crc : s.resetFletcher.crc = s.crc := rfl
@[simp] theorem State.resetFletcher_cls : s.resetFletcher.cls = s.cls := rfl
@[simp] theorem State.resetFletcher_mid : s.resetFletcher.mid = s.mid := rfl
@[simp] theorem State.resetFletcher_lenb : s.resetFletcher.lenb = s.lenb := rfl
@[simp] theorem State.resetFletcher_plen : s.resetFletcher.plen = s.plen := rfl
@[simp] theorem State.resetFletcher_k : s.resetFletcher.k = s.k := rfl
@[simp] theorem State.resetFletcher_rem : s.resetFletcher.rem = s.rem := rfl
@[simp] theorem State.resetFletcher_fVal : s.resetFletcher.fVal = s.fVal := rfl
@[simp] theorem State.resetFletcher_fT0 : s.resetFletcher.fT0 = s.fT0 := rfl
@[simp] theorem State.resetFletcher_fLo : s.resetFletcher.fLo = s.fLo := rfl
@[simp] theorem State.resetFletcher_fHi : s.resetFletcher.fHi = s.fHi := rfl
@[simp] theorem State.resetFletcher_fValid : s.resetFletcher.fValid = s.fValid := rfl
@[simp] theorem State.resetFletcher_fBuf : s.resetFletcher.fBuf = s.fBuf := rfl
@[simp] theorem State.resetFletcher_fCnt : s.resetFletcher.fCnt = s.fCnt := rfl
@[simp] theorem State.resetFletcher_dynLen : s.resetFletcher.dynLen = s.dynLen := rfl
@[simp] theorem State.resetFletcher_dynValid : s.resetFletcher.dynValid = s.dynValid := rfl
@[simp] theorem State.resetFletcher_cType : s.resetFletcher.cType = s.cType := rfl
@[simp] theorem State.resetFletcher_cSub : s.resetFletcher.cSub = s.cSub := rfl
@[simp] theorem State.resetFletcher_subPend : s.resetFletcher.subPend = s.subPend := rfl
@[simp] theorem State.resetFletcher_cfgRev : s.resetFletcher.cfgRev = s.cfgRev := rfl
@[simp] theorem State.resetFletcher_rom : s.resetFletcher.rom = s.rom := rfl
@[simp] theorem State.resetFletcher_textCap : s.resetFletcher.textCap = s.textCap := rfl
@[simp] theorem State.resetFletcher_subTypes : s.resetFletcher.subTypes = s.subTypes := rfl
@[simp] theorem State.resetFletcher_inp : s.resetFletcher.inp = s.inp := rfl
@[simp] theorem State.resetFletcher_ann : s.resetFletcher.ann = s.ann := rfl

@[simp] theorem State.foldFletcher_st (b : Byte) : (s.foldFletcher b).st = s.st := rfl
@[simp] theorem State.foldFletcher_ckA (b : Byte) : (s.foldFletcher b).ckA = s.ckA + b := rfl
@[simp] theorem State.foldFletcher_ckB (b : Byte) : (s.foldFletcher b).ckB = s.ckB + (s.ckA + b) := rfl
@[simp] theorem State.foldFletcher_nx (b : Byte) : (s.foldFletcher b).nx = s.nx := rfl
@[simp] theorem State.foldFletcher_crc (b : Byte) : (s.foldFletcher b).crc = s.crc := rfl
@[simp] theorem State.foldFletcher_cls (b : Byte) : (s.foldFletcher b).cls = s.cls := rfl
@[simp] theorem State.foldFletcher_mid (b : Byte) : (s.foldFletcher b).mid = s.mid := rfl
@[simp] theorem State.foldFletcher_lenb (b : Byte) : (s.foldFletcher b).lenb = s.lenb := rfl
@[simp] theorem State.foldFletcher_plen (b : Byte) : (s.foldFletcher b).plen = s.plen := rfl
@[simp] theorem State.foldFletcher_k (b : Byte) : (s.foldFletcher b).k = s.k := rfl
@[simp] theorem State.foldFletcher_rem (b : Byte) : (s.foldFletcher b).rem = s.rem := rfl
@[simp] theorem State.foldFletcher_fVal (b : Byte) : (s.foldFletcher b).fVal = s.fVal := rfl
@[simp] theorem State.foldFletcher_fT0 (b : Byte) : (s.foldFletcher b).fT0 = s.fT0 := rfl
@[simp] theorem State.foldFletcher_fLo (b : Byte) : (s.foldFletcher b).fLo = s.fLo := rfl
@[simp] theorem State.foldFletcher_fHi (b : Byte) : (s.foldFletcher b).fHi = s.fHi := rfl
@[simp] theorem State.foldFletcher_fValid (b : Byte) : (s.foldFletcher b).fValid = s.fValid := rfl
@[simp] theorem State.foldFletcher_fBuf (b : Byte) : (s.foldFletcher b).fBuf = s.fBuf := rfl
@[simp] theorem State.foldFletcher_fCnt (b : Byte) : (s.foldFletcher b).fCnt = s.fCnt := rfl
@[simp] theorem State.foldFletcher_dynLen (b : Byte) : (s.foldFletcher b).dynLen = s.dynLen := rfl
@[simp] theorem State.foldFletcher_dynValid (b : Byte) : (s.foldFletcher b).dynValid = s.dynValid := rfl
@[simp] theorem State.foldFletcher_cType (b : Byte) : (s.foldFletcher b).cType = s.cType := rfl
@[simp] theorem State.foldFletcher_cSub (b : Byte) : (s.foldFletcher b).cSub = s.cSub := rfl
@[simp] theorem State.foldFletcher_subPend (b : Byte) : (s.foldFletcher b).subPend = s.subPend := rfl
@[simp] theorem State.foldFletcher_cfgRev (b : Byte) : (s.foldFletcher b).cfgRev = s.cfgRev := rfl
@[simp] theorem State.foldFletcher_rom (b : Byte) : (s.foldFletcher b).rom = s.rom := rfl
@[simp] theorem State.foldFletcher_textCap (b : Byte) : (s.foldFletcher b).textCap = s.textCap := rfl
@[simp] theorem State.foldFletcher_subTypes (b : Byte) : (s.foldFletcher b).subTypes = s.subTypes := rfl
@[simp] theorem State.foldFletcher_inp (b : Byte) : (s.foldFletcher b).inp = s.inp := rfl
@[simp] theorem State.foldFletcher_ann (b : Byte) : (s.foldFletcher b).ann = s.ann := rfl

@[simp] theorem State.resetXor_st : s.resetXor.st = s.st := rfl
@[simp] theorem State.resetXor_ckA : s.resetXor.ckA = s.ckA := rfl
@[simp] theorem State.resetXor_ckB : s.resetXor.ckB = s.ckB := rfl
@[simp] theorem State.resetXor_nx : s.resetXor.nx = 0 := rfl
@[simp] theorem State.resetXor_crc : s.resetXor.crc = s.crc := rfl
@[simp] theorem State.resetXor_cls : s.resetXor.cls = s.cls := rfl
@[simp] theorem State.resetXor_mid : s.resetXor.mid = s.mid := rfl
@[simp] theorem State.resetXor_lenb : s.resetXor.lenb = s.lenb := rfl
@[simp] theorem State.resetXor_plen : s.resetXor.plen = s.plen := rfl
@[simp] theorem State.resetXor_k : s.resetXor.k = s.k := rfl
@[simp] theorem State.resetXor_rem : s.resetXor.rem = s.rem := rfl
@[simp] theorem State.resetXor_fVal : s.resetXor.fVal = s.fVal := rfl
@[simp] theorem State.resetXor_fT0 : s.resetXor.fT0 = s.fT0 := rfl
@[simp] theorem State.resetXor_fLo : s.resetXor.fLo = s.fLo := rfl
@[simp] theorem State.resetXor_fHi : s.resetXor.fHi = s.fHi := rfl
@[simp] theorem State.resetXor_fValid : s.resetXor.fValid = s.fValid := rfl
@[simp] theorem State.resetXor_fBuf : s.resetXor.fBuf = s.fBuf := rfl
@[simp] theorem State.resetXor_fCnt : s.resetXor.fCnt = s.fCnt := rfl
@[simp] theorem State.resetXor_dynLen : s.resetXor.dynLen = s.dynLen := rfl
@[simp] theorem State.resetXor_dynValid : s.resetXor.dynValid = s.dynValid := rfl
@[simp] theorem State.resetXor_cType : s.resetXor.cType = s.cType := rfl
@[simp] theorem State.resetXor_cSub : s.resetXor.cSub = s.cSub := rfl
@[simp] theorem State.resetXor_subPend : s.resetXor.subPend = s.subPend := rfl
@[simp] theorem State.resetXor_cfgRev : s.resetXor.cfgRev = s.cfgRev := rfl
@[simp] theorem State.resetXor_rom : s.resetXor.rom = s.rom := rfl
@[simp] theorem State.resetXor_textCap : s.resetXor.textCap = s.textCap := rfl
@[simp] theorem State.resetXor_subTypes : s.resetXor.subTypes = s.subTypes := rfl
@[simp] theorem State.resetXor_inp : s.resetXor.inp = s.inp := rfl
@[simp] theorem State.resetXor_ann : s.resetXor.ann = s.ann := rfl

@[simp] theorem State.foldXor_st (b : Byte) : (s.foldXor b).st = s.st := rfl
@[simp] theorem State.foldXor_ckA (b : Byte) : (s.foldXor b).ckA = s.ckA := rfl
@[simp] theorem State.foldXor_ckB (b : Byte) : (s.foldXor b).ckB = s.ckB := rfl
@[simp] theorem State.foldXor_nx (b : Byte) : (s.foldXor b).nx = s.nx ^^^ b := rfl
@[simp] theorem State.foldXor_crc (b : Byte) : (s.foldXor b).crc = s.crc := rfl
@[simp] theorem State.foldXor_cls (b : Byte) : (s.foldXor b).cls = s.cls := rfl
@[simp] theorem State.foldXor_mid (b : Byte) : (s.foldXor b).mid = s.mid := rfl
@[simp] theorem State.foldXor_lenb (b : Byte) : (s.foldXor b).lenb = s.lenb := rfl
@[simp] theorem State.foldXor_plen (b : Byte) : (s.foldXor b).plen = s.plen := rfl
@[simp] theorem State.foldXor_k (b : Byte) : (s.foldXor b).k = s.k := rfl
@[simp] theorem State.foldXor_rem (b : Byte) : (s.foldXor b).rem = s.rem := rfl
@[simp] theorem State.foldXor_fVal (b : Byte) : (s.foldXor b).fVal = s.fVal := rfl
@[simp] theorem State.foldXor_fT0 (b : Byte) : (s.foldXor b).fT0 = s.fT0 := rfl
@[simp] theorem State.foldXor_fLo (b : Byte) : (s.foldXor b).fLo = s.fLo := rfl
@[simp] theorem State.foldXor_fHi (b : Byte) : (s.foldXor b).fHi = s.fHi := rfl
@[simp] theorem State.foldXor_fValid (b : Byte) : (s.foldXor b).fValid = s.fValid := rfl
@[simp] theorem State.foldXor_fBuf (b : Byte) : (s.foldXor b).fBuf = s.fBuf := rfl
@[simp] theorem State.foldXor_fCnt (b : Byte) : (s.foldXor b).fCnt = s.fCnt := rfl
@[simp] theorem State.foldXor_dynLen (b : Byte) : (s.foldXor b).dynLen = s.dynLen := rfl
@[simp] theorem State.foldXor_dynValid (b : Byte) : (s.foldXor b).dynValid = s.dynValid := rfl
@[simp] theorem State.foldXor_cType (b : Byte) : (s.foldXor b).cType = s.cType := rfl
@[simp] theorem State.foldXor_cSub (b : Byte) : (s.foldXor b).cSub = s.cSub := rfl
@[simp] theorem State.foldXor_subPend (b : Byte) : (s.foldXor b).subPend = s.subPend := rfl
@[simp] theorem State.foldXor_cfgRev (b : Byte) : (s.foldXor b).cfgRev = s.cfgRev := rfl
@[simp] theorem State.foldXor_rom (b : Byte) : (s.foldXor b).rom = s.rom := rfl
@[simp] theorem State.foldXor_textCap (b : Byte) : (s.foldXor b).textCap = s.textCap := rfl
@[simp] theorem State.foldXor_subTypes (b : Byte) : (s.foldXor b).subTypes = s.subTypes := rfl
@[simp] theorem State.foldXor_inp (b : Byte) : (s.foldXor b).inp = s.inp := rfl
@[simp] theorem State.foldXor_ann (b : Byte) : (s.foldXor b).ann = s.ann := rfl

@[simp] theorem State.resetCrc_st : s.resetCrc.st = s.st := rfl
@[simp] theorem State.resetCrc_ckA : s.resetCrc.ckA = s.ckA := rfl
@[simp] theorem State.resetCrc_ckB : s.resetCrc.ckB = s.ckB := rfl
@[simp] theorem State.resetCrc_nx : s.resetCrc.nx = s.nx := rfl
@[simp] theorem State.resetCrc_crc : s.resetCrc.crc = 0 := rfl
@[simp] theorem State.resetCrc_cls : s.resetCrc.cls = s.cls := rfl
@[simp] theorem State.resetCrc_mid : s.resetCrc.mid = s.mid := rfl
@[simp] theorem State.resetCrc_lenb : s.resetCrc.lenb = s.lenb := rfl
@[simp] theorem State.resetCrc_plen : s.resetCrc.plen = s.plen := rfl
@[simp] theorem State.resetCrc_k : s.resetCrc.k = s.k := rfl
@[simp] theorem State.resetCrc_rem : s.resetCrc.rem = s.rem := rfl
@[simp] theorem State.resetCrc_fVal : s.resetCrc.fVal = s.fVal := rfl
@[simp] theorem State.resetCrc_fT0 : s.resetCrc.fT0 = s.fT0 := rfl
@[simp] theorem State.resetCrc_fLo : s.resetCrc.fLo = s.fLo := rfl
@[simp] theorem State.resetCrc_fHi : s.resetCrc.fHi = s.fHi := rfl
@[simp] theorem State.resetCrc_fValid : s.resetCrc.fValid = s.fValid := rfl
@[simp] theorem State.resetCrc_fBuf : s.resetCrc.fBuf = s.fBuf := rfl
@[simp] theorem State.resetCrc_fCnt : s.resetCrc.fCnt = s.fCnt := rfl
@[simp] theorem State.resetCrc_dynLen : s.resetCrc.dynLen = s.dynLen := rfl
@[simp] theorem State.resetCrc_dynValid : s.resetCrc.dynValid = s.dynValid := rfl
@[simp] theorem State.resetCrc_cType : s.resetCrc.cType = s.cType := rfl
@[simp] theorem State.resetCrc_cSub : s.resetCrc.cSub = s.cSub := rfl
@[simp] theorem State.resetCrc_subPend : s.resetCrc.subPend = s.subPend := rfl
@[simp] theorem State.resetCrc_cfgRev : s.resetCrc.cfgRev = s.cfgRev := rfl
@[simp] theorem State.resetCrc_rom : s.resetCrc.rom = s.rom := rfl
@[simp] theorem State.resetCrc_textCap : s.resetCrc.textCap = s.textCap := rfl
@[simp] theorem State.resetCrc_subTypes : s.resetCrc.subTypes = s.subTypes := rfl
@[simp] theorem State.resetCrc_inp : s.resetCrc.inp = s.inp := rfl
@[simp] theorem State.resetCrc_ann : s.resetCrc.ann = s.ann := rfl

@[simp] theorem State.foldCrc_st (b : Byte) : (s.foldCrc b).st = s.st := rfl
@[simp] theorem State.foldCrc_ckA (b : Byte) : (s.foldCrc b).ckA = s.ckA := rfl
@[simp] theorem State.foldCrc_ckB (b : Byte) : (s.foldCrc b).ckB = s.ckB := rfl
@[simp] theorem State.foldCrc_nx (b : Byte) : (s.foldCrc b).nx = s.nx := rfl
@[simp] theorem State.foldCrc_crc (b : Byte) : (s.foldCrc b).crc = Checksum.crcFold s.crc b := rfl
@[simp] theorem State.foldCrc_cls (b : Byte) : (s.foldCrc b).cls = s.cls := rfl
@[simp] theorem State.foldCrc_mid (b : Byte) : (s.foldCrc b).mid = s.mid := rfl
@[simp] theorem State.foldCrc_lenb (b : Byte) : (s.foldCrc b).lenb = s.lenb := rfl
@[simp] theorem State.foldCrc_plen (b : Byte) : (s.foldCrc b).plen = s.plen := rfl
@[simp] theorem State.foldCrc_k (b : Byte) : (s.foldCrc b).k = s.k := rfl
@[simp] theorem State.foldCrc_rem (b : Byte) : (s.foldCrc b).rem = s.rem := rfl
@[simp] theorem State.foldCrc_fVal (b : Byte) : (s.foldCrc b).fVal = s.fVal := rfl
@[simp] theorem State.foldCrc_fT0 (b : Byte) : (s.foldCrc b).fT0 = s.fT0 := rfl
@[simp] theorem State.foldCrc_fLo (b : Byte) : (s.foldCrc b).fLo = s.fLo := rfl
@[simp] theorem State.foldCrc_fHi (b : Byte) : (s.foldCrc b).fHi = s.fHi := rfl
@[simp] theorem State.foldCrc_fValid (b : Byte) : (s.foldCrc b).fValid = s.fValid := rfl
@[simp] theorem State.foldCrc_fBuf (b : Byte) : (s.foldCrc b).fBuf = s.fBuf := rfl
@[simp] theorem State.foldCrc_fCnt (b : Byte) : (s.foldCrc b).fCnt = s.fCnt := rfl
@[simp] theorem State.foldCrc_dynLen (b : Byte) : (s.foldCrc b).dynLen = s.dynLen := rfl
@[simp] theorem State.foldCrc_dynValid (b : Byte) : (s.foldCrc b).dynValid = s.dynValid := rfl
@[simp] theorem State.foldCrc_cType (b : Byte) : (s.foldCrc b).cType = s.cType := rfl
@[simp] theorem State.foldCrc_cSub (b : Byte) : (s.foldCrc b).cSub = s.cSub := rfl
@[simp] theorem State.foldCrc_subPend (b : Byte) : (s.foldCrc b).subPend = s.subPend := rfl
@[simp] theorem State.foldCrc_cfgRev (b : Byte) : (s.foldCrc b).cfgRev = s.cfgRev := rfl
@[simp] theorem State.foldCrc_rom (b : Byte) : (s.foldCrc b).rom = s.rom := rfl
@[simp] theorem State.foldCrc_textCap (b : Byte) : (s.foldCrc b).textCap = s.textCap := rfl
@[simp] theorem State.foldCrc_subTypes (b : Byte) : (s.foldCrc b).subTypes = s.subTypes := rfl
@[simp] theorem State.foldCrc_inp (b : Byte) : (s.foldCrc b).inp = s.inp := rfl
@[simp] theorem State.foldCrc_ann (b : Byte) : (s.foldCrc b).ann = s.ann := rfl

@[simp] theorem State.beginPayload_st (n : BitVec 16) : (s.beginPayload n).st = s.st := rfl
@[simp] theorem State.beginPayload_ckA (n : BitVec 16) : (s.beginPayload n).ckA = s.ckA := rfl
@[simp] theorem State.beginPayload_ckB (n : BitVec 16) : (s.beginPayload n).ckB = s.ckB := rfl
@[simp] theorem State.beginPayload_nx (n : BitVec 16) : (s.beginPayload n).nx = s.nx := rfl
@[simp] theorem State.beginPayload_crc (n : BitVec 16) : (s.beginPayload n).crc = s.crc := rfl
@[simp] theorem State.beginPayload_cls (n : BitVec 16) : (s.beginPayload n).cls = s.cls := rfl
@[simp] theorem State.beginPayload_mid (n : BitVec 16) : (s.beginPayload n).mid = s.mid := rfl
@[simp] theorem State.beginPayload_lenb (n : BitVec 16) : (s.beginPayload n).lenb = s.lenb := rfl
@[simp] theorem State.beginPayload_plen (n : BitVec 16) : (s.beginPayload n).plen = n := rfl
@[simp] theorem State.beginPayload_k (n : BitVec 16) : (s.beginPayload n).k = 0 := rfl
@[simp] theorem State.beginPayload_rem (n : BitVec 16) : (s.beginPayload n).rem = n := rfl
@[simp] theorem State.beginPayload_fVal (n : BitVec 16) : (s.beginPayload n).fVal = s.fVal := rfl
@[simp] theorem State.beginPayload_fT0 (n : BitVec 16) : (s.beginPayload n).fT0 = s.fT0 := rfl
@[simp] theorem State.beginPayload_fLo (n : BitVec 16) : (s.beginPayload n).fLo = s.fLo := rfl
@[simp] theorem State.beginPayload_fHi (n : BitVec 16) : (s.beginPayload n).fHi = s.fHi := rfl
@[simp] theorem State.beginPayload_fValid (n : BitVec 16) : (s.beginPayload n).fValid = s.fValid := rfl
@[simp] theorem State.beginPayload_fBuf (n : BitVec 16) : (s.beginPayload n).fBuf = s.fBuf := rfl
@[simp] theorem State.beginPayload_fCnt (n : BitVec 16) : (s.beginPayload n).fCnt = s.fCnt := rfl
@[simp] theorem State.beginPayload_dynLen (n : BitVec 16) : (s.beginPayload n).dynLen = s.dynLen := rfl
@[simp] theorem State.beginPayload_dynValid (n : BitVec 16) : (s.beginPayload n).dynValid = s.dynValid := rfl
@[simp] theorem State.beginPayload_cType (n : BitVec 16) : (s.beginPayload n).cType = s.cType := rfl
@[simp] theorem State.beginPayload_cSub (n : BitVec 16) : (s.beginPayload n).cSub = s.cSub := rfl
@[simp] theorem State.beginPayload_subPend (n : BitVec 16) : (s.beginPayload n).subPend = s.subPend := rfl
@[simp] theorem State.beginPayload_cfgRev (n : BitVec 16) : (s.beginPayload n).cfgRev = s.cfgRev := rfl
@[simp] theorem State.beginPayload_rom (n : BitVec 16) : (s.beginPayload n).rom = s.rom := rfl
@[simp] theorem State.beginPayload_textCap (n : BitVec 16) : (s.beginPayload n).textCap = s.textCap := rfl
@[simp] theorem State.beginPayload_subTypes (n : BitVec 16) : (s.beginPayload n).subTypes = s.subTypes := rfl
@[simp] theorem State.beginPayload_inp (n : BitVec 16) : (s.beginPayload n).inp = s.inp := rfl
@[simp] theorem State.beginPayload_ann (n : BitVec 16) : (s.beginPayload n).ann = s.ann := rfl

@[simp] theorem State.countPayload_st : s.countPayload.st = s.st := rfl
@[simp] theorem State.countPayload_ckA : s.countPayload.ckA = s.ckA := rfl
@[simp] theorem State.countPayload_ckB : s.countPayload.ckB = s.ckB := rfl
@[simp] theorem State.countPayload_nx : s.countPayload.nx = s.nx := rfl
@[simp] theorem State.countPayload_crc : s.countPayload.crc = s.crc := rfl
@[simp] theorem State.countPayload_cls : s.countPayload.cls = s.cls := rfl
@[simp] theorem State.countPayload_mid : s.countPayload.mid = s.mid := rfl
@[simp] theorem State.countPayload_lenb : s.countPayload.lenb = s.lenb := rfl
@[simp] theorem State.countPayload_plen : s.countPayload.plen = s.plen := rfl
@[simp] theorem State.countPayload_k : s.countPayload.k = s.k + 1 := rfl
@[simp] theorem State.countPayload_rem : s.countPayload.rem = s.rem - 1 := rfl
@[simp] theorem State.countPayload_fVal : s.countPayload.fVal = s.fVal := rfl
@[simp] theorem State.countPayload_fT0 : s.countPayload.fT0 = s.fT0 := rfl
@[simp] theorem State.countPayload_fLo : s.countPayload.fLo = s.fLo := rfl
@[simp] theorem State.countPayload_fHi : s.countPayload.fHi = s.fHi := rfl
@[simp] theorem State.countPayload_fValid : s.countPayload.fValid = s.fValid := rfl
@[simp] theorem State.countPayload_fBuf : s.countPayload.fBuf = s.fBuf := rfl
@[simp] theorem State.countPayload_fCnt : s.countPayload.fCnt = s.fCnt := rfl
@[simp] theorem State.countPayload_dynLen : s.countPayload.dynLen = s.dynLen := rfl
@[simp] theorem State.countPayload_dynValid : s.countPayload.dynValid = s.dynValid := rfl
@[simp] theorem State.countPayload_cType : s.countPayload.cType = s.cType := rfl
@[simp] theorem State.countPayload_cSub : s.countPayload.cSub = s.cSub := rfl
@[simp] theorem State.countPayload_subPend : s.countPayload.subPend = s.subPend := rfl
@[simp] theorem State.countPayload_cfgRev : s.countPayload.cfgRev = s.cfgRev := rfl
@[simp] theorem State.countPayload_rom : s.countPayload.rom = s.rom := rfl
@[simp] theorem State.countPayload_textCap : s.countPayload.textCap = s.textCap := rfl
@[simp] theorem State.countPayload_subTypes : s.countPayload.subTypes = s.subTypes := rfl
@[simp] theorem State.countPayload_inp : s.countPayload.inp = s.inp := rfl
@[simp] theorem State.countPayload_ann : s.countPayload.ann = s.ann := rfl

@[simp] theorem State.append_st (b : Byte) : (s.append b).st = s.st := rfl
@[simp] theorem State.append_ckA (b : Byte) : (s.append b).ckA = s.ckA := rfl
@[simp] theorem State.append_ckB (b : Byte) : (s.append b).ckB = s.ckB := rfl
@[simp] theorem State.append_nx (b : Byte) : (s.append b).nx = s.nx := rfl
@[simp] theorem State.append_crc (b : Byte) : (s.append b).crc = s.crc := rfl
@[simp] theorem State.append_cls (b : Byte) : (s.append b).cls = s.cls := rfl
@[simp] theorem State.append_mid (b : Byte) : (s.append b).mid = s.mid := rfl
@[simp] theorem State.append_lenb (b : Byte) : (s.append b).lenb = s.lenb := rfl
@[simp] theorem State.append_plen (b : Byte) : (s.append b).plen = s.plen := rfl
@[simp] theorem State.append_k (b : Byte) : (s.append b).k = s.k := rfl
@[simp] theorem State.append_rem (b : Byte) : (s.append b).rem = s.rem := rfl
@[simp] theorem State.append_fVal (b : Byte) : (s.append b).fVal = s.fVal := rfl
@[simp] theorem State.append_fT0 (b : Byte) : (s.append b).fT0 = s.fT0 := rfl
@[simp] theorem State.append_fLo (b : Byte) : (s.append b).fLo = s.fLo := rfl
@[simp] theorem State.append_fHi (b : Byte) : (s.append b).fHi = s.fHi := rfl
@[simp] theorem State.append_fValid (b : Byte) : (s.append b).fValid = s.fValid := rfl
@[simp] theorem State.append_fBuf (b : Byte) : (s.append b).fBuf = s.fBuf ++ [b] := rfl
@[simp] theorem State.append_fCnt (b : Byte) : (s.append b).fCnt = s.fCnt := rfl
@[simp] theorem State.append_dynLen (b : Byte) : (s.append b).dynLen = s.dynLen := rfl
@[simp] theorem State.append_dynValid (b : Byte) : (s.append b).dynValid = s.dynValid := rfl
@[simp] theorem State.append_cType (b : Byte) : (s.append b).cType = s.cType := rfl
@[simp] theorem State.append_cSub (b : Byte) : (s.append b).cSub = s.cSub := rfl
@[simp] theorem State.append_subPend (b : Byte) : (s.append b).subPend = s.subPend := rfl
@[simp] theorem State.append_cfgRev (b : Byte) : (s.append b).cfgRev = s.cfgRev := rfl
@[simp] theorem State.append_rom (b : Byte) : (s.append b).rom = s.rom := rfl
@[simp] theorem State.append_textCap (b : Byte) : (s.append b).textCap = s.textCap := rfl
@[simp] theorem State.append_subTypes (b : Byte) : (s.append b).subTypes = s.subTypes := rfl
@[simp] theorem State.append_inp (b : Byte) : (s.append b).inp = s.inp := rfl
@[simp] theorem State.append_ann (b : Byte) : (s.append b).ann = s.ann := rfl

@[simp] theorem State.clearFrame_st : s.clearFrame.st = s.st := rfl
@[simp] theorem State.clearFrame_ckA : s.clearFrame.ckA = 0 := rfl
@[simp] theorem State.clearFrame_ckB : s.clearFrame.ckB = 0 := rfl
@[simp] theorem State.clearFrame_nx : s.clearFrame.nx = 0 := rfl
@[simp] theorem State.clearFrame_crc : s.clearFrame.crc = 0 := rfl
@[simp] theorem State.clearFrame_cls : s.clearFrame.cls = 0 := rfl
@[simp] theorem State.clearFrame_mid : s.clearFrame.mid = 0 := rfl
@[simp] theorem State.clearFrame_lenb : s.clearFrame.lenb = 0 := rfl
@[simp] theorem State.clearFrame_plen : s.clearFrame.plen = 0 := rfl
@[simp] theorem State.clearFrame_k : s.clearFrame.k = 0 := rfl
@[simp] theorem State.clearFrame_rem : s.clearFrame.rem = 0 := rfl
@[simp] theorem State.clearFrame_fVal : s.clearFrame.fVal = 0 := rfl
@[simp] theorem State.clearFrame_fT0 : s.clearFrame.fT0 = none := rfl
@[simp] theorem State.clearFrame_fLo : s.clearFrame.fLo = 0 := rfl
@[simp] theorem State.clearFrame_fHi : s.clearFrame.fHi = 0 := rfl
@[simp] theorem State.clearFrame_fValid : s.clearFrame.fValid = false := rfl
@[simp] theorem State.clearFrame_fBuf : s.clearFrame.fBuf = [] := rfl
@[simp] theorem State.clearFrame_fCnt : s.clearFrame.fCnt = 0 := rfl
@[simp] theorem State.clearFrame_dynLen : s.clearFrame.dynLen = 0 := rfl
@[simp] theorem State.clearFrame_dynValid : s.clearFrame.dynValid = false := rfl
@[simp] theorem State.clearFrame_cType : s.clearFrame.cType = 0 := rfl
@[simp] theorem State.clearFrame_cSub : s.clearFrame.cSub = 0 := rfl
@[simp] theorem State.clearFrame_subPend : s.clearFrame.subPend = false := rfl
@[simp] theorem State.clearFrame_cfgRev : s.clearFrame.cfgRev = s.cfgRev := rfl
@[simp] theorem State.clearFrame_rom : s.clearFrame.rom = s.rom := rfl
@[simp] theorem State.clearFrame_textCap : s.clearFrame.textCap = s.textCap := rfl
@[simp] theorem State.clearFrame_subTypes : s.clearFrame.subTypes = s.subTypes := rfl
@[simp] theorem State.clearFrame_inp : s.clearFrame.inp = s.inp := rfl
@[simp] theorem State.clearFrame_ann : s.clearFrame.ann = s.ann := rfl

@[simp] theorem State.resync_st (code : ErrCode) (sp : Span) : (s.resync code sp).st = St.idle := rfl
@[simp] theorem State.resync_ckA (code : ErrCode) (sp : Span) : (s.resync code sp).ckA = 0 := rfl
@[simp] theorem State.resync_ckB (code : ErrCode) (sp : Span) : (s.resync code sp).ckB = 0 := rfl
@[simp] theorem State.resync_nx (code : ErrCode) (sp : Span) : (s.resync code sp).nx = 0 := rfl
@[simp] theorem State.resync_crc (code : ErrCode) (sp : Span) : (s.resync code sp).crc = 0 := rfl
@[simp] theorem State.resync_cls (code : ErrCode) (sp : Span) : (s.resync code sp).cls = 0 := rfl
@[simp] theorem State.resync_mid (code : ErrCode) (sp : Span) : (s.resync code sp).mid = 0 := rfl
@[simp] theorem State.resync_lenb (code : ErrCode) (sp : Span) : (s.resync code sp).lenb = 0 := rfl
@[simp] theorem State.resync_plen (code : ErrCode) (sp : Span) : (s.resync code sp).plen = 0 := rfl
@[simp] theorem State.resync_k (code : ErrCode) (sp : Span) : (s.resync code sp).k = 0 := rfl
@[simp] theorem State.resync_rem (code : ErrCode) (sp : Span) : (s.resync code sp).rem = 0 := rfl
@[simp] theorem State.resync_fVal (code : ErrCode) (sp : Span) : (s.resync code sp).fVal = 0 := rfl
@[simp] theorem State.resync_fT0 (code : ErrCode) (sp : Span) : (s.resync code sp).fT0 = none := rfl
@[simp] theorem State.resync_fLo (code : ErrCode) (sp : Span) : (s.resync code sp).fLo = 0 := rfl
@[simp] theorem State.resync_fHi (code : ErrCode) (sp : Span) : (s.resync code sp).fHi = 0 := rfl
@[simp] theorem State.resync_fValid (code : ErrCode) (sp : Span) : (s.resync code sp).fValid = false := rfl
@[simp] theorem State.resync_fBuf (code : ErrCode) (sp : Span) : (s.resync code sp).fBuf = [] := rfl
@[simp] theorem State.resync_fCnt (code : ErrCode) (sp : Span) : (s.resync code sp).fCnt = 0 := rfl
@[simp] theorem State.resync_dynLen (code : ErrCode) (sp : Span) : (s.resync code sp).dynLen = 0 := rfl
@[simp] theorem State.resync_dynValid (code : ErrCode) (sp : Span) : (s.resync code sp).dynValid = false := rfl
@[simp] theorem State.resync_cType (code : ErrCode) (sp : Span) : (s.resync code sp).cType = 0 := rfl
@[simp] theorem State.resync_cSub (code : ErrCode) (sp : Span) : (s.resync code sp).cSub = 0 := rfl
@[simp] theorem State.resync_subPend (code : ErrCode) (sp : Span) : (s.resync code sp).subPend = false := rfl
@[simp] theorem State.resync_cfgRev (code : ErrCode) (sp : Span) : (s.resync code sp).cfgRev = s.cfgRev := rfl
@[simp] theorem State.resync_rom (code : ErrCode) (sp : Span) : (s.resync code sp).rom = s.rom := rfl
@[simp] theorem State.resync_textCap (code : ErrCode) (sp : Span) : (s.resync code sp).textCap = s.textCap := rfl
@[simp] theorem State.resync_subTypes (code : ErrCode) (sp : Span) : (s.resync code sp).subTypes = s.subTypes := rfl
@[simp] theorem State.resync_inp (code : ErrCode) (sp : Span) : (s.resync code sp).inp = s.inp := rfl
@[simp] theorem State.resync_ann (code : ErrCode) (sp : Span) : (s.resync code sp).ann = some ⟨.invalid code, sp.t0, sp.t1⟩ := rfl

@[simp] theorem State.finish_st : s.finish.st = St.idle := rfl
@[simp] theorem State.finish_ckA : s.finish.ckA = 0 := rfl
@[simp] theorem State.finish_ckB : s.finish.ckB = 0 := rfl
@[simp] theorem State.finish_nx : s.finish.nx = 0 := rfl
@[simp] theorem State.finish_crc : s.finish.crc = 0 := rfl
@[simp] theorem State.finish_cls : s.finish.cls = 0 := rfl
@[simp] theorem State.finish_mid : s.finish.mid = 0 := rfl
@[simp] theorem State.finish_lenb : s.finish.lenb = 0 := rfl
@[simp] theorem State.finish_plen : s.finish.plen = 0 := rfl
@[simp] theorem State.finish_k : s.finish.k = 0 := rfl
@[simp] theorem State.finish_rem : s.finish.rem = 0 := rfl
@[simp] theorem State.finish_fVal : s.finish.fVal = 0 := rfl
@[simp] theorem State.finish_fT0 : s.finish.fT0 = none := rfl
@[simp] theorem State.finish_fLo : s.finish.fLo = 0 := rfl
@[simp] theorem State.finish_fHi : s.finish.fHi = 0 := rfl
@[simp] theorem State.finish_fValid : s.finish.fValid = false := rfl
@[simp] theorem State.finish_fBuf : s.finish.fBuf = [] := rfl
@[simp] theorem State.finish_fCnt : s.finish.fCnt = 0 := rfl
@[simp] theorem State.finish_dynLen : s.finish.dynLen = 0 := rfl
@[simp] theorem State.finish_dynValid : s.finish.dynValid = false := rfl
@[simp] theorem State.finish_cType : s.finish.cType = 0 := rfl
@[simp] theorem State.finish_cSub : s.finish.cSub = 0 := rfl
@[simp] theorem State.finish_subPend : s.finish.subPend = false := rfl
@[simp] theorem State.finish_cfgRev : s.finish.cfgRev = s.cfgRev := rfl
@[simp] theorem State.finish_rom : s.finish.rom = s.rom := rfl
@[simp] theorem State.finish_textCap : s.finish.textCap = s.textCap := rfl
@[simp] theorem State.finish_subTypes : s.finish.subTypes = s.subTypes := rfl
@[simp] theorem State.finish_inp : s.finish.inp = s.inp := rfl
@[simp] theorem State.finish_ann : s.finish.ann = s.ann := rfl

@[simp] theorem startBuild_st (d : FieldDescriptor) (e : Nat) (sp : Span) : (startBuild d e sp s).st = s.st := rfl
@[simp] theorem startBuild_ckA (d : FieldDescriptor) (e : Nat) (sp : Span) : (startBuild d e sp s).ckA = s.ckA := rfl
@[simp] theorem startBuild_ckB (d : FieldDescriptor) (e : Nat) (sp : Span) : (startBuild d e sp s).ckB = s.ckB := rfl
@[simp] theorem startBuild_nx (d : FieldDescriptor) (e : Nat) (sp : Span) : (startBuild d e sp s).nx = s.nx := rfl
@[simp] theorem startBuild_crc (d : FieldDescriptor) (e : Nat) (sp : Span) : (startBuild d e sp s).crc = s.crc := rfl
@[simp] theorem startBuild_cls (d : FieldDescriptor) (e : Nat) (sp : Span) : (startBuild d e sp s).cls = s.cls := rfl
@[simp] theorem startBuild_mid (d : FieldDescriptor) (e : Nat) (sp : Span) : (startBuild d e sp s).mid = s.mid := rfl
@[simp] theorem startBuild_lenb (d : FieldDescriptor) (e : Nat) (sp : Span) : (startBuild d e sp s).lenb = s.lenb := rfl
@[simp] theorem startBuild_plen (d : FieldDescriptor) (e : Nat) (sp : Span) : (startBuild d e sp s).plen = s.plen := rfl
@[simp] theorem startBuild_k (d : FieldDescriptor) (e : Nat) (sp : Span) : (startBuild d e sp s).k = s.k := rfl
@[simp] theorem startBuild_rem (d : FieldDescriptor) (e : Nat) (sp : Span) : (startBuild d e sp s).rem = s.rem := rfl
@[simp] theorem startBuild_fVal (d : FieldDescriptor) (e : Nat) (sp : Span) : (startBuild d e sp s).fVal = 0 := rfl
@[simp] theorem startBuild_fT0 (d : FieldDescriptor) (e : Nat) (sp : Span) : (startBuild d e sp s).fT0 = some sp.t0 := rfl
@[simp] theorem startBuild_fLo (d : FieldDescriptor) (e : Nat) (sp : Span) : (startBuild d e sp s).fLo = d.lo := rfl
@[simp] theorem startBuild_fHi (d : FieldDescriptor) (e : Nat) (sp : Span) : (startBuild d e sp s).fHi = BitVec.ofNat 16 e := rfl
@[simp] theorem startBuild_fValid (d : FieldDescriptor) (e : Nat) (sp : Span) : (startBuild d e sp s).fValid = true := rfl
@[simp] theorem startBuild_fBuf (d : FieldDescriptor) (e : Nat) (sp : Span) : (startBuild d e sp s).fBuf = [] := rfl
@[simp] theorem startBuild_fCnt (d : FieldDescriptor) (e : Nat) (sp : Span) : (startBuild d e sp s).fCnt = 0 := rfl
@[simp] theorem startBuild_dynLen (d : FieldDescriptor) (e : Nat) (sp : Span) : (startBuild d e sp s).dynLen = s.dynLen := rfl
@[simp] theorem startBuild_dynValid (d : FieldDescriptor) (e : Nat) (sp : Span) : (startBuild d e sp s).dynValid = s.dynValid := rfl
@[simp] theorem startBuild_cType (d : FieldDescriptor) (e : Nat) (sp : Span) : (startBuild d e sp s).cType = s.cType := rfl
@[simp] theorem startBuild_cSub (d : FieldDescriptor) (e : Nat) (sp : Span) : (startBuild d e sp s).cSub = s.cSub := rfl
@[simp] theorem startBuild_subPend (d : FieldDescriptor) (e : Nat) (sp : Span) : (startBuild d e sp s).subPend = s.subPend := rfl
@[simp] theorem startBuild_cfgRev (d : FieldDescriptor) (e : Nat) (sp : Span) : (startBuild d e sp s).cfgRev = s.cfgRev := rfl
@[simp] theorem startBuild_rom (d : FieldDescriptor) (e : Nat) (sp : Span) : (startBuild d e sp s).rom = s.rom := rfl
@[simp] theorem startBuild_textCap (d : FieldDescriptor) (e : Nat) (sp : Span) : (startBuild d e sp s).textCap = s.textCap := rfl
@[simp] theorem startBuild_subTypes (d : FieldDescriptor) (e : Nat) (sp : Span) : (startBuild d e sp s).subTypes = s.subTypes := rfl
@[simp] theorem startBuild_inp (d : FieldDescriptor) (e : Nat) (sp : Span) : (startBuild d e sp s).inp = s.inp := rfl
@[simp] theorem startBuild_ann (d : FieldDescriptor) (e : Nat) (sp : Span) : (startBuild d e sp s).ann = s.ann := rfl

@[simp] theorem accumulateInt_st (d : FieldDescriptor) (b : Byte) : (accumulateInt d b s).st = s.st := rfl
@[simp] theorem accumulateInt_ckA (d : FieldDescriptor) (b : Byte) : (accumulateInt d b s).ckA = s.ckA := rfl
@[simp] theorem accumulateInt_ckB (d : FieldDescriptor) (b : Byte) : (accumulateInt d b s).ckB = s.ckB := rfl
@[simp] theorem accumulateInt_nx (d : FieldDescriptor) (b : Byte) : (accumulateInt d b s).nx = s.nx := rfl
@[simp] theorem accumulateInt_crc (d : FieldDescriptor) (b : Byte) : (accumulateInt d b s).crc = s.crc := rfl
@[simp] theorem accumulateInt_cls (d : FieldDescriptor) (b : Byte) : (accumulateInt d b s).cls = s.cls := rfl
@[simp] theorem accumulateInt_mid (d : FieldDescriptor) (b : Byte) : (accumulateInt d b s).mid = s.mid := rfl
@[simp] theorem accumulateInt_lenb (d : FieldDescriptor) (b : Byte) : (accumulateInt d b s).lenb = s.lenb := rfl
@[simp] theorem accumulateInt_plen (d : FieldDescriptor) (b : Byte) : (accumulateInt d b s).plen = s.plen := rfl
@[simp] theorem accumulateInt_k (d : FieldDescriptor) (b : Byte) : (accumulateInt d b s).k = s.k := rfl
@[simp] theorem accumulateInt_rem (d : FieldDescriptor) (b : Byte) : (accumulateInt d b s).rem = s.rem := rfl
@[simp] theorem accumulateInt_fVal (d : FieldDescriptor) (b : Byte) : (accumulateInt d b s).fVal = Operands.insertByte s.fVal (s.k.toNat - d.lo.toNat) b := rfl
@[simp] theorem accumulateInt_fT0 (d : FieldDescriptor) (b : Byte) : (accumulateInt d b s).fT0 = s.fT0 := rfl
@[simp] theorem accumulateInt_fLo (d : FieldDescriptor) (b : Byte) : (accumulateInt d b s).fLo = s.fLo := rfl
@[simp] theorem accumulateInt_fHi (d : FieldDescriptor) (b : Byte) : (accumulateInt d b s).fHi = s.fHi := rfl
@[simp] theorem accumulateInt_fValid (d : FieldDescriptor) (b : Byte) : (accumulateInt d b s).fValid = s.fValid := rfl
@[simp] theorem accumulateInt_fBuf (d : FieldDescriptor) (b : Byte) : (accumulateInt d b s).fBuf = s.fBuf := rfl
@[simp] theorem accumulateInt_fCnt (d : FieldDescriptor) (b : Byte) : (accumulateInt d b s).fCnt = s.fCnt := rfl
@[simp] theorem accumulateInt_dynLen (d : FieldDescriptor) (b : Byte) : (accumulateInt d b s).dynLen = s.dynLen := rfl
@[simp] theorem accumulateInt_dynValid (d : FieldDescriptor) (b : Byte) : (accumulateInt d b s).dynValid = s.dynValid := rfl
@[simp] theorem accumulateInt_cType (d : FieldDescriptor) (b : Byte) : (accumulateInt d b s).cType = s.cType := rfl
@[simp] theorem accumulateInt_cSub (d : FieldDescriptor) (b : Byte) : (accumulateInt d b s).cSub = s.cSub := rfl
@[simp] theorem accumulateInt_subPend (d : FieldDescriptor) (b : Byte) : (accumulateInt d b s).subPend = s.subPend := rfl
@[simp] theorem accumulateInt_cfgRev (d : FieldDescriptor) (b : Byte) : (accumulateInt d b s).cfgRev = s.cfgRev := rfl
@[simp] theorem accumulateInt_rom (d : FieldDescriptor) (b : Byte) : (accumulateInt d b s).rom = s.rom := rfl
@[simp] theorem accumulateInt_textCap (d : FieldDescriptor) (b : Byte) : (accumulateInt d b s).textCap = s.textCap := rfl
@[simp] theorem accumulateInt_subTypes (d : FieldDescriptor) (b : Byte) : (accumulateInt d b s).subTypes = s.subTypes := rfl
@[simp] theorem accumulateInt_inp (d : FieldDescriptor) (b : Byte) : (accumulateInt d b s).inp = s.inp := rfl
@[simp] theorem accumulateInt_ann (d : FieldDescriptor) (b : Byte) : (accumulateInt d b s).ann = s.ann := rfl

@[simp] theorem accumulateRegion_st : (accumulateRegion s).st = s.st := rfl
@[simp] theorem accumulateRegion_ckA : (accumulateRegion s).ckA = s.ckA := rfl
@[simp] theorem accumulateRegion_ckB : (accumulateRegion s).ckB = s.ckB := rfl
@[simp] theorem accumulateRegion_nx : (accumulateRegion s).nx = s.nx := rfl
@[simp] theorem accumulateRegion_crc : (accumulateRegion s).crc = s.crc := rfl
@[simp] theorem accumulateRegion_cls : (accumulateRegion s).cls = s.cls := rfl
@[simp] theorem accumulateRegion_mid : (accumulateRegion s).mid = s.mid := rfl
@[simp] theorem accumulateRegion_lenb : (accumulateRegion s).lenb = s.lenb := rfl
@[simp] theorem accumulateRegion_plen : (accumulateRegion s).plen = s.plen := rfl
@[simp] theorem accumulateRegion_k : (accumulateRegion s).k = s.k := rfl
@[simp] theorem accumulateRegion_rem : (accumulateRegion s).rem = s.rem := rfl
@[simp] theorem accumulateRegion_fVal : (accumulateRegion s).fVal = s.fVal := rfl
@[simp] theorem accumulateRegion_fT0 : (accumulateRegion s).fT0 = s.fT0 := rfl
@[simp] theorem accumulateRegion_fLo : (accumulateRegion s).fLo = s.fLo := rfl
@[simp] theorem accumulateRegion_fHi : (accumulateRegion s).fHi = s.fHi := rfl
@[simp] theorem accumulateRegion_fValid : (accumulateRegion s).fValid = s.fValid := rfl
@[simp] theorem accumulateRegion_fBuf : (accumulateRegion s).fBuf = s.fBuf := rfl
@[simp] theorem accumulateRegion_fCnt : (accumulateRegion s).fCnt = s.fCnt + 1 := rfl
@[simp] theorem accumulateRegion_dynLen : (accumulateRegion s).dynLen = s.dynLen := rfl
@[simp] theorem accumulateRegion_dynValid : (accumulateRegion s).dynValid = s.dynValid := rfl
@[simp] theorem accumulateRegion_cType : (accumulateRegion s).cType = s.cType := rfl
@[simp] theorem accumulateRegion_cSub : (accumulateRegion s).cSub = s.cSub := rfl
@[simp] theorem accumulateRegion_subPend : (accumulateRegion s).subPend = s.subPend := rfl
@[simp] theorem accumulateRegion_cfgRev : (accumulateRegion s).cfgRev = s.cfgRev := rfl
@[simp] theorem accumulateRegion_rom : (accumulateRegion s).rom = s.rom := rfl
@[simp] theorem accumulateRegion_textCap : (accumulateRegion s).textCap = s.textCap := rfl
@[simp] theorem accumulateRegion_subTypes : (accumulateRegion s).subTypes = s.subTypes := rfl
@[simp] theorem accumulateRegion_inp : (accumulateRegion s).inp = s.inp := rfl
@[simp] theorem accumulateRegion_ann : (accumulateRegion s).ann = s.ann := rfl

@[simp] theorem captureLength_st : (captureLength s).st = s.st := rfl
@[simp] theorem captureLength_ckA : (captureLength s).ckA = s.ckA := rfl
@[simp] theorem captureLength_ckB : (captureLength s).ckB = s.ckB := rfl
@[simp] theorem captureLength_nx : (captureLength s).nx = s.nx := rfl
@[simp] theorem captureLength_crc : (captureLength s).crc = s.crc := rfl
@[simp] theorem captureLength_cls : (captureLength s).cls = s.cls := rfl
@[simp] theorem captureLength_mid : (captureLength s).mid = s.mid := rfl
@[simp] theorem captureLength_lenb : (captureLength s).lenb = s.lenb := rfl
@[simp] theorem captureLength_plen : (captureLength s).plen = s.plen := rfl
@[simp] theorem captureLength_k : (captureLength s).k = s.k := rfl
@[simp] theorem captureLength_rem : (captureLength s).rem = s.rem := rfl
@[simp] theorem captureLength_fVal : (captureLength s).fVal = s.fVal := rfl
@[simp] theorem captureLength_fT0 : (captureLength s).fT0 = s.fT0 := rfl
@[simp] theorem captureLength_fLo : (captureLength s).fLo = s.fLo := rfl
@[simp] theorem captureLength_fHi : (captureLength s).fHi = s.fHi := rfl
@[simp] theorem captureLength_fValid : (captureLength s).fValid = s.fValid := rfl
@[simp] theorem captureLength_fBuf : (captureLength s).fBuf = s.fBuf := rfl
@[simp] theorem captureLength_fCnt : (captureLength s).fCnt = s.fCnt := rfl
@[simp] theorem captureLength_dynLen : (captureLength s).dynLen = s.fVal.truncate 16 := rfl
@[simp] theorem captureLength_dynValid : (captureLength s).dynValid = true := rfl
@[simp] theorem captureLength_cType : (captureLength s).cType = s.cType := rfl
@[simp] theorem captureLength_cSub : (captureLength s).cSub = s.cSub := rfl
@[simp] theorem captureLength_subPend : (captureLength s).subPend = s.subPend := rfl
@[simp] theorem captureLength_cfgRev : (captureLength s).cfgRev = s.cfgRev := rfl
@[simp] theorem captureLength_rom : (captureLength s).rom = s.rom := rfl
@[simp] theorem captureLength_textCap : (captureLength s).textCap = s.textCap := rfl
@[simp] theorem captureLength_subTypes : (captureLength s).subTypes = s.subTypes := rfl
@[simp] theorem captureLength_inp : (captureLength s).inp = s.inp := rfl
@[simp] theorem captureLength_ann : (captureLength s).ann = s.ann := rfl

end Sys2Proof.Machine
end

