-- ==== Sys2Proof/Laws/Ops.lean ====
section
/-! SUPPORT. One lemma per shared operation that says everything it can do: the clearing operations against the reset state,
and the extractor's operations by inversion. -/

namespace Sys2Proof.Machine

/-- `ClearFrame` leaves the reset values, and leaves `st`, the configuration and the ports. -/
theorem clearFrame_eq_reset (s : State) :
    s.clearFrame = { s.fresh with st := s.st, ann := s.ann } := rfl

/-- `finish` leaves the fresh state, with the annotation of the completing rule on the port. -/
theorem finish_eq_fresh (s : State) : s.finish = { s.fresh with ann := s.ann } := rfl

/-- `resync` leaves the fresh state, with `INVALID(code)` on the port. -/
theorem resync_eq_fresh (code : ErrCode) (sp : Span) (s : State) :
    s.resync code sp = { s.fresh with ann := some ⟨.invalid code, sp.t0, sp.t1⟩ } := rfl

@[simp] theorem clearFrame_clearFrame (s : State) : s.clearFrame.clearFrame = s.clearFrame := rfl

/-- The start time is `f_t0` when it is set, so the free value is read only when it is not. -/
theorem startTime_of_some {s : State} {ta : TS} (h : s.fT0 = some ta) (sp : Span) : s.startTime sp = ta := by
  simp [State.startTime, h]

theorem bufFull_iff (s : State) : s.bufFull = true ↔ s.textCap = some s.fBuf.length := by
  simp [State.bufFull]

/-- What `Applicable(d)` with end `e` means, in numbers (R122). -/
theorem covers_eq_some_iff (d : FieldDescriptor) (s : State) (e : Nat) :
    covers d s = some e ↔ endOf d s = some e ∧ lengthGuard d s = true ∧ revGuard d s = true ∧
      d.lo.toNat ≤ s.k.toNat ∧ s.k.toNat ≤ e := by
  unfold covers
  cases h : endOf d s with
  | none => simp
  | some e' =>
    simp only [Option.some.injEq]
    constructor
    · intro hc
      split at hc
      · rename_i hg
        simp only [Bool.and_eq_true, decide_eq_true_eq] at hg
        cases hc
        exact ⟨rfl, hg.1.1.1, hg.1.1.2, hg.1.2, hg.2⟩
      · cases hc
    · rintro ⟨rfl, h1, h2, h3, h4⟩
      simp [h1, h2, h3, h4]

/-- `StartBuild` or `ContinueCheck`: what opening a build can answer (R125, R126, R133). -/
theorem openBuild_cases {d : FieldDescriptor} {e : Nat} {sp : Span} {s t : State} (h : openBuild d e sp s = .ok t) :
    (s.k = d.lo ∧ t = startBuild d e sp s) ∨ (s.k ≠ d.lo ∧ continues d e s = true ∧ t = s) := by
  unfold openBuild at h
  split at h
  · cases h; exact .inl ⟨‹_›, rfl⟩
  · split at h
    · cases h; exact .inr ⟨‹_›, ‹_›, rfl⟩
    · cases h

/-- The accumulate rules: what one byte can do to the accumulator (R127 to R129). -/
theorem accumulate_cases {d : FieldDescriptor} {b : Byte} {s t : State} (h : accumulate d b s = .ok t) :
    ((d.kind = .u ∨ d.kind = .s) ∧ t = accumulateInt d b s) ∨
    ((d.kind = .text ∨ d.kind = .array) ∧ s.bufFull = false ∧ t = { s.append b with fCnt := s.fCnt + 1 }) ∨
    (d.kind = .region ∧ t = accumulateRegion s) := by
  unfold accumulate at h
  split at h
  · cases h; exact .inl ⟨.inl ‹_›, rfl⟩
  · cases h; exact .inl ⟨.inr ‹_›, rfl⟩
  · unfold accumulateBytes at h
    split at h
    · cases h
    · cases h; exact .inr (.inl ⟨.inl ‹_›, Bool.eq_false_iff.mpr ‹_›, rfl⟩)
  · unfold accumulateBytes at h
    split at h
    · cases h
    · cases h; exact .inr (.inl ⟨.inr ‹_›, Bool.eq_false_iff.mpr ‹_›, rfl⟩)
  · cases h; exact .inr (.inr ⟨‹_›, rfl⟩)

/-- `Complete` in full: the annotation, the capture and the end of the build (R130). -/
theorem complete_eq (d : FieldDescriptor) (e : Nat) (sp : Span) (s : State) :
    complete d e sp s =
      { s with
        ann := some ⟨fieldLabel d e s, s.startTime sp, sp.t1⟩
        dynLen := if d.capture then s.fVal.truncate 16 else s.dynLen
        dynValid := d.capture || s.dynValid
        fValid := false } := by
  unfold complete captureLength State.emit
  cases d.capture <;> simp

/-- Everything `Extract` can answer (R133). -/
theorem extract_cases {b : Byte} {sp : Span} {s t : State} (h : extract b sp s = .ok t) :
    (selectField s = none ∧ t = placeholder b sp s) ∨
    ∃ d e s1 s2, selectField s = some (d, e) ∧ openBuild d e sp s = .ok s1 ∧ accumulate d b s1 = .ok s2 ∧
      ((s2.k.toNat = e ∧ t = complete d e sp s2) ∨ (s2.k.toNat ≠ e ∧ t = s2)) := by
  unfold extract at h
  split at h
  · cases h; exact .inl ⟨‹_›, rfl⟩
  · rename_i d e hsel
    split at h
    · cases h
    · rename_i s1 h1
      split at h
      · cases h
      · rename_i s2 h2
        refine .inr ⟨d, e, s1, s2, hsel, h1, h2, ?_⟩
        cases h
        split
        · exact .inl ⟨‹_›, rfl⟩
        · exact .inr ⟨‹_›, rfl⟩

/-- What the extractor never writes: the state code, the engines, the header, the counters, the configuration, the inputs. -/
theorem extract_frame {b : Byte} {sp : Span} {s t : State} (h : extract b sp s = .ok t) :
    t = { s with
      fVal := t.fVal, fT0 := t.fT0, fLo := t.fLo, fHi := t.fHi, fValid := t.fValid, fBuf := t.fBuf, fCnt := t.fCnt,
      dynLen := t.dynLen, dynValid := t.dynValid, ann := t.ann } := by
  rcases extract_cases h with ⟨-, rfl⟩ | ⟨d, e, s1, s2, -, h1, h2, h3⟩
  · rfl
  · rcases openBuild_cases h1 with ⟨-, rfl⟩ | ⟨-, -, rfl⟩ <;>
    rcases accumulate_cases h2 with ⟨-, rfl⟩ | ⟨-, -, rfl⟩ | ⟨-, rfl⟩ <;>
    rcases h3 with ⟨-, rfl⟩ | ⟨-, rfl⟩ <;>
    first | rfl | (rw [complete_eq]; rfl)

end Sys2Proof.Machine
end

