-- ==== Sys2Proof/Laws/Parameters.lean ====
section
/-! SUPPORT. The power-on state of a parameterized run field by field, and the naming of timestamps. -/

namespace Sys2Proof.Machine

variable {T U : Type}

@[simp] theorem nameTimestamps_length (n : Nat) (samples : List (PortsOf T)) :
    (nameTimestamps n samples).length = samples.length := by
  induction samples generalizing n with
  | nil => rfl
  | cons p ps ih => simp [nameTimestamps, ih]

/-- The names do not depend on the timestamps they name. -/
@[simp] theorem nameTimestamps_map (f : T → U) (n : Nat) (samples : List (PortsOf T)) :
    nameTimestamps n (samples.map (PortsOf.mapTs f)) = nameTimestamps n samples := by
  induction samples generalizing n with
  | nil => rfl
  | cons p ps ih => simp [nameTimestamps, PortsOf.mapTs, ih]

namespace Parameters

variable (P : Parameters) (samples : List (PortsOf P.TS))

@[simp] theorem powerOn_cfgRev : (P.powerOn samples).cfgRev = P.moduleRev := rfl
@[simp] theorem powerOn_rom : (P.powerOn samples).rom = P.registry := rfl
@[simp] theorem powerOn_textCap : (P.powerOn samples).textCap = P.textCap := rfl
@[simp] theorem powerOn_subTypes : (P.powerOn samples).subTypes = P.subTypes := rfl
@[simp] theorem powerOn_inp : (P.powerOn samples).inp = nameTimestamps 0 samples := rfl

/-- The remaining fields are those of the reset state. -/
theorem powerOn_eq : P.powerOn samples = { State.reset with
    cfgRev := P.moduleRev, rom := P.registry, textCap := P.textCap, subTypes := P.subTypes, inp := nameTimestamps 0 samples } :=
  rfl

end Parameters

end Sys2Proof.Machine
end

