-- ==== Sys2Proof/Laws/PerInstr.lean ====
section
/-! SUPPORT. Statements for all instructions, one lemma per constructor of `Instr`. Family `RowMatches`: the encoder's word
of an instruction carries the match bits of its own row under the row's mask (rule R74), the match and mask written out
from opcode_table.json. -/

namespace Sys2Proof.Laws.RowMatches

/-- The match and mask of an instruction's row, from opcode_table.json. -/
def pattern : Instr → BitVec 16 × BitVec 16
  | .reset _ => (0x0000, 0x0000)
  | .idlePreambleA _ => (0x00B5, 0xFFFF)
  | .idleDelimB _ => (0x0024, 0xFFFF)
  | .idlePreambleC _ => (0x00D3, 0xFFFF)
  | .idleNoise _ _ => (0x0000, 0xFF00)
  | .aSync2Ok _ => (0x0162, 0xFFFF)
  | .aSync2Bad _ _ => (0x0100, 0xFF00)
  | .aClass _ _ => (0x0200, 0xFF00)
  | .aId _ _ => (0x0300, 0xFF00)
  | .aLen1 _ _ => (0x0400, 0xFF00)
  | .aLen2 _ _ => (0x0500, 0xFF00)
  | .aPayload _ _ => (0x0600, 0xFF00)
  | .aCkaOk _ _ => (0x0700, 0xFF00)
  | .aCkaBad _ _ => (0x0700, 0xFF00)
  | .aCkbOk _ _ => (0x0800, 0xFF00)
  | .aCkbBad _ _ => (0x0800, 0xFF00)
  | .bEndDelim _ => (0x092A, 0xFFFF)
  | .bBody _ _ => (0x0900, 0xFF00)
  | .bCk1Ok _ _ => (0x0A00, 0xFF00)
  | .bCk1Bad _ _ => (0x0A00, 0xFF00)
  | .bCk2Ok _ _ => (0x0B00, 0xFF00)
  | .bCk2Bad _ _ => (0x0B00, 0xFF00)
  | .bCrOk _ => (0x0C0D, 0xFFFF)
  | .bCrBad _ _ => (0x0C00, 0xFF00)
  | .bLfOk _ => (0x0D0A, 0xFFFF)
  | .bLfBad _ _ => (0x0D00, 0xFF00)
  | .cLen1 _ _ => (0x0E00, 0xFF00)
  | .cLen2 _ _ => (0x0F00, 0xFF00)
  | .cType1 _ _ => (0x1000, 0xFF00)
  | .cType2 _ _ => (0x1100, 0xFF00)
  | .cSubtype _ _ => (0x1200, 0xFF00)
  | .cPayload _ _ => (0x1200, 0xFF00)
  | .cCrc1Ok _ _ => (0x1300, 0xFF00)
  | .cCrc1Bad _ _ => (0x1300, 0xFF00)
  | .cCrc2Ok _ _ => (0x1400, 0xFF00)
  | .cCrc2Bad _ _ => (0x1400, 0xFF00)
  | .cCrc3Ok _ _ => (0x1500, 0xFF00)
  | .cCrc3Bad _ _ => (0x1500, 0xFF00)
  | .abortIdle _ => (0x4000, 0xFFFF)
  | .abortFrame _ _ => (0x4000, 0xE0FF)
  | .reservedKind _ _ => (0x8000, 0x8000)

/-- The instruction's word matches its row. -/
def Statement (i : Instr) : Prop := encodeWord i &&& (pattern i).2 = (pattern i).1

theorem reset (rev : ModuleRev) : Statement (.reset rev) := by
  simp only [Statement, encodeWord, pattern]; decide
theorem idlePreambleA (sp : Span) : Statement (.idlePreambleA sp) := by
  simp only [Statement, encodeWord, pattern]; decide
theorem idleDelimB (sp : Span) : Statement (.idleDelimB sp) := by
  simp only [Statement, encodeWord, pattern]; decide
theorem idlePreambleC (sp : Span) : Statement (.idlePreambleC sp) := by
  simp only [Statement, encodeWord, pattern]; decide
theorem idleNoise (b : Byte) (sp : Span) : Statement (.idleNoise b sp) := packWord_and_high _ _ b
theorem aSync2Ok (sp : Span) : Statement (.aSync2Ok sp) := by
  simp only [Statement, encodeWord, pattern]; decide
theorem aSync2Bad (b : Byte) (sp : Span) : Statement (.aSync2Bad b sp) := packWord_and_high _ _ b
theorem aClass (b : Byte) (sp : Span) : Statement (.aClass b sp) := packWord_and_high _ _ b
theorem aId (b : Byte) (sp : Span) : Statement (.aId b sp) := packWord_and_high _ _ b
theorem aLen1 (b : Byte) (sp : Span) : Statement (.aLen1 b sp) := packWord_and_high _ _ b
theorem aLen2 (b : Byte) (sp : Span) : Statement (.aLen2 b sp) := packWord_and_high _ _ b
theorem aPayload (b : Byte) (sp : Span) : Statement (.aPayload b sp) := packWord_and_high _ _ b
theorem aCkaOk (b : Byte) (sp : Span) : Statement (.aCkaOk b sp) := packWord_and_high _ _ b
theorem aCkaBad (b : Byte) (sp : Span) : Statement (.aCkaBad b sp) := packWord_and_high _ _ b
theorem aCkbOk (b : Byte) (sp : Span) : Statement (.aCkbOk b sp) := packWord_and_high _ _ b
theorem aCkbBad (b : Byte) (sp : Span) : Statement (.aCkbBad b sp) := packWord_and_high _ _ b
theorem bEndDelim (sp : Span) : Statement (.bEndDelim sp) := by
  simp only [Statement, encodeWord, pattern]; decide
theorem bBody (b : Byte) (sp : Span) : Statement (.bBody b sp) := packWord_and_high _ _ b
theorem bCk1Ok (b : Byte) (sp : Span) : Statement (.bCk1Ok b sp) := packWord_and_high _ _ b
theorem bCk1Bad (b : Byte) (sp : Span) : Statement (.bCk1Bad b sp) := packWord_and_high _ _ b
theorem bCk2Ok (b : Byte) (sp : Span) : Statement (.bCk2Ok b sp) := packWord_and_high _ _ b
theorem bCk2Bad (b : Byte) (sp : Span) : Statement (.bCk2Bad b sp) := packWord_and_high _ _ b
theorem bCrOk (sp : Span) : Statement (.bCrOk sp) := by
  simp only [Statement, encodeWord, pattern]; decide
theorem bCrBad (b : Byte) (sp : Span) : Statement (.bCrBad b sp) := packWord_and_high _ _ b
theorem bLfOk (sp : Span) : Statement (.bLfOk sp) := by
  simp only [Statement, encodeWord, pattern]; decide
theorem bLfBad (b : Byte) (sp : Span) : Statement (.bLfBad b sp) := packWord_and_high _ _ b
theorem cLen1 (b : Byte) (sp : Span) : Statement (.cLen1 b sp) := packWord_and_high _ _ b
theorem cLen2 (b : Byte) (sp : Span) : Statement (.cLen2 b sp) := packWord_and_high _ _ b
theorem cType1 (b : Byte) (sp : Span) : Statement (.cType1 b sp) := packWord_and_high _ _ b
theorem cType2 (b : Byte) (sp : Span) : Statement (.cType2 b sp) := packWord_and_high _ _ b
theorem cSubtype (b : Byte) (sp : Span) : Statement (.cSubtype b sp) := packWord_and_high _ _ b
theorem cPayload (b : Byte) (sp : Span) : Statement (.cPayload b sp) := packWord_and_high _ _ b
theorem cCrc1Ok (b : Byte) (sp : Span) : Statement (.cCrc1Ok b sp) := packWord_and_high _ _ b
theorem cCrc1Bad (b : Byte) (sp : Span) : Statement (.cCrc1Bad b sp) := packWord_and_high _ _ b
theorem cCrc2Ok (b : Byte) (sp : Span) : Statement (.cCrc2Ok b sp) := packWord_and_high _ _ b
theorem cCrc2Bad (b : Byte) (sp : Span) : Statement (.cCrc2Bad b sp) := packWord_and_high _ _ b
theorem cCrc3Ok (b : Byte) (sp : Span) : Statement (.cCrc3Ok b sp) := packWord_and_high _ _ b
theorem cCrc3Bad (b : Byte) (sp : Span) : Statement (.cCrc3Bad b sp) := packWord_and_high _ _ b
theorem abortIdle (sp : Span) : Statement (.abortIdle sp) := by
  simp only [Statement, encodeWord, pattern]; decide
theorem abortFrame (code : BitVec 5) (sp : Span) : Statement (.abortFrame code sp) := by
  show packWord kindAbort code 0 &&& 0xE0FF = 0x4000
  revert code; decide
theorem reservedKind (low : BitVec 15) (sp : Span) : Statement (.reservedKind low sp) := by
  show (1#1 ++ low : BitVec 16) &&& 0x8000 = 0x8000
  apply BitVec.eq_of_getLsbD_eq
  intro i hi
  simp only [BitVec.getLsbD_and, BitVec.getLsbD_append]
  interval_cases i <;> simp

end Sys2Proof.Laws.RowMatches
end

