-- ==== Sys2Proof/Laws/Rom.lean ====
section
/-! SUPPORT. The ROM, the block's one memory: no operation writes it, so its well-formedness is kept, and the reset state has
a well-formed one. -/

namespace Sys2Proof.Machine

theorem reset_rom_wf : State.reset.rom.wf = true := by decide

@[simp] theorem fresh_rom (s : State) : s.fresh.rom = s.rom := rfl

@[simp] theorem complete_rom (d : FieldDescriptor) (e : Nat) (sp : Span) (s : State) : (complete d e sp s).rom = s.rom := by
  rw [complete_eq]

/-- The one operation that answers a state by cases keeps the ROM; for the others see Laws/State.lean. -/
theorem extract_rom {b : Byte} {sp : Span} {s t : State} (h : extract b sp s = .ok t) : t.rom = s.rom := by
  rw [extract_frame h]

/-- So it keeps the ROM well formed. -/
theorem extract_keeps_wf {b : Byte} {sp : Span} {s t : State} (h : extract b sp s = .ok t) (hw : s.rom.wf = true) :
    t.rom.wf = true := by
  rw [extract_rom h, hw]

end Sys2Proof.Machine
end

