-- ==== Sys2Proof/Laws/Step.lean ====
section
/-! SUPPORT. The step by inversion: what selecting a row can answer, and what a step that answers a next state did. -/

namespace Sys2Proof.Machine

/-- The presented sample and the row it selects, when a row runs (R150). -/
theorem fetch_run {s u : State} {i : Instr} (h : fetch s = .run i u) :
    ∃ p rest, s.rom.wf = true ∧ s.inp = p :: rest ∧ u = { s with inp := rest } ∧
      (p.rst = false → p.cfgRev = s.cfgRev ∧ p.evValid = true) ∧ decode (eventWord p u) u.condRegs = .ok i := by
  unfold fetch at h
  split at h
  · split at h
    · cases h
    · rename_i p rest hin
      unfold present at h
      split at h
      · cases h
      · split at h
        · cases h
        · rename_i hc hv
          split at h
          · rename_i i' hd
            cases h
            refine ⟨p, rest, ‹_›, hin, rfl, ?_, hd⟩
            intro hr
            simp [hr] at hc hv
            exact ⟨hc, hv⟩
          · cases h
  · cases h

/-- When nothing is presented, or a sample with `ev_valid = 0` and `rst = 0` (R70). -/
theorem fetch_noEvent {s u : State} (h : fetch s = .noEvent u) :
    (s.inp = [] ∧ u = s) ∨
    ∃ p rest, s.inp = p :: rest ∧ p.rst = false ∧ p.evValid = false ∧ p.cfgRev = s.cfgRev ∧ u = { s with inp := rest } := by
  unfold fetch at h
  split at h
  · split at h
    · cases h; exact .inl ⟨‹_›, rfl⟩
    · rename_i p rest hin
      unfold present at h
      split at h
      · cases h
      · split at h
        · rename_i hc hv
          cases h
          simp at hv
          refine .inr ⟨p, rest, hin, hv.1, hv.2, ?_, rfl⟩
          simpa [hv.1] using hc
        · split at h <;> cases h
  · cases h

/-- Everything a step that answers a next state did: nothing, or one row's rule (R150). -/
theorem step_cases {s t : State} (h : step s = .next t) :
    (∃ u, fetch s = .noEvent u ∧ t = u.quiet) ∨ ∃ i u, fetch s = .run i u ∧ exec i u = .next t := by
  unfold step at h
  split at h
  · cases h
  · cases h
  · cases h; exact .inl ⟨_, ‹_›, rfl⟩
  · exact .inr ⟨_, _, ‹_›, h⟩

end Sys2Proof.Machine
end

