-- ==== Sys2Proof/Tests/Slice0.lean ====
section
/-! SUPPORT. Tests of single steps and single functions, with expected values from spec/95_test_vectors.md (the vector is named
in each comment) or worked out from the rule named; and, for every obligation with hypotheses, a witness that meets them. -/

namespace Sys2Proof.Tests

open Sys2Proof.Machine

/-! ### Helpers -/

/-- The span of event `n` (R88). -/
def spanAt (n : Nat) : Span := ⟨2 * n, 2 * n + 1⟩

/-- A state in the middle of a frame: reset, at a state code. -/
def at' (code : BitVec 5) : State := { State.reset with st := code }

/-- `s` with byte `b` presented as event `n`. -/
def feed (s : State) (n : Nat) (b : Byte) : State := { s with inp := [byteEvent s.cfgRev b (spanAt n)] }

/-- `s` with an `ABORT` presented as event `n`. -/
def feedAbort (s : State) (n : Nat) : State :=
  { s with inp := [⟨false, true, kindAbort, 0x55, 2 * n, 2 * n + 1, s.cfgRev⟩] }

/-- The annotation and the state code that a step shows. -/
def seen (s : State) : Option (Option Annotation × BitVec 5) :=
  match step s with
  | .next t => some (t.ann, t.st)
  | .fault _ | .refused _ => none

/-- What a step shows, and a register of the state it reaches. -/
def seenReg {α : Type} (reg : State → α) (s : State) : Option (Option Annotation × BitVec 5 × α) :=
  match step s with
  | .next t => some (t.ann, t.st, reg t)
  | .fault _ | .refused _ => none

/-- The reason a step is refused for. -/
def refusal (s : State) : Option Refusal :=
  match step s with
  | .refused r => some r
  | .next _ | .fault _ => none

/-- A field descriptor with the defaults of 95_test_vectors.md section 0. -/
def field (lo : BitVec 16) (stop : FieldEnd) (name : String) (kind : FieldKind) : FieldDescriptor :=
  ⟨lo, stop, name, kind, .dec, 0, 65535, .any, false⟩

/-- The descriptors of `PT (0x70, 0x01)` of the fixture ROM `TROM`. -/
def planFields : List FieldDescriptor := [
  field 0 (.fixed 3) "iTOW" .u,
  field 4 (.fixed 5) "delta" .s,
  { field 6 (.fixed 6) "flags" .u with base := .hex },
  { field 7 (.fixed 7) "nUser" .u with capture := true },
  field 8 .fromCapture "userData" .region]

/-- The descriptors of `PT (0x70, 0x02)` of `TROM`. -/
def planVer : List FieldDescriptor := [
  { field 0 (.fixed 0) "hwGenA" .u with rev := .rev0 },
  { field 0 (.fixed 0) "hwGenB" .u with rev := .rev1 },
  field 1 .toEnd "swVersion" .text]

/-- The descriptors of `PT (0x70, 0x04)` of `TROM`, which overlap. -/
def planOvl : List FieldDescriptor := [field 2 (.fixed 2) "Y" .u, field 0 (.fixed 3) "X" .u]

/-- The part of `TROM` that the tests use. -/
def trom : Registry where
  ct := [⟨0x05, "ACK"⟩, ⟨0x70, "TST"⟩]
  it := [⟨0x05, 0x01, "ACK"⟩, ⟨0x70, 0x01, "FIELDS"⟩, ⟨0x70, 0x02, "VER"⟩]
  pt := [⟨0x70, 0x01, planFields⟩, ⟨0x70, 0x02, planVer⟩, ⟨0x70, 0x04, planOvl⟩]

/-- A payload byte at offset `k` of a payload of `plen` bytes of message (0x70, `mid`). -/
def inPayload (mid : Byte) (plen k : BitVec 16) : State :=
  { at' St.aPayload with rom := trom, cls := 0x70, mid := mid, plen := plen, k := k, rem := plen - k }

/-! ### Syntax: what the checks refuse -/

theorem test_noise_preamble_ill_formed : (Instr.idleNoise 0xD3 (spanAt 0)).check = some .noiseByteIsPreamble := by decide
theorem test_sync2_bad_ill_formed : (Instr.aSync2Bad 0x62 (spanAt 0)).check = some .badSync2IsSync2 := by decide
theorem test_body_delimiter_ill_formed : (Instr.bBody 0x2A (spanAt 0)).check = some .bodyByteIsDelimiter := by decide
theorem test_cr_bad_ill_formed : (Instr.bCrBad 0x0D (spanAt 0)).check = some .badCrIsCr := by decide
theorem test_lf_bad_ill_formed : (Instr.bLfBad 0x0A (spanAt 0)).check = some .badLfIsLf := by decide
theorem test_abort_frame_idle_ill_formed : (Instr.abortFrame 0 (spanAt 0)).check = some .abortFrameInIdle := by decide
theorem test_abort_frame_reserved_ill_formed :
    (Instr.abortFrame 22 (spanAt 0)).check = some .abortFrameInReservedState := by decide
theorem test_reserved_bit13_ill_formed : (Instr.reservedKind 0x2000 (spanAt 0)).check = some .reservedKindBit13 := by decide

/-! ### Decoding: words written bit by bit from opcode_table.json: W[15:14] kind, W[13] 0, W[12:8] state code, W[7:0] byte -/

/-- The decoder on a written-out word, with the condition registers `r`. -/
def dec (w : BitVec 16) (r : CondRegs := CondRegs.reset) : Except DecodeError Instr := decode ⟨false, .rev0, w, spanAt 0⟩ r

theorem test_decode_reset :
    decode ⟨true, .rev1, 0b0000000010110101, spanAt 0⟩ CondRegs.reset = .ok (.reset .rev1) := by decide

theorem test_decode_idle :
    dec 0b0000000010110101 = .ok (.idlePreambleA (spanAt 0)) ∧
    dec 0b0000000000100100 = .ok (.idleDelimB (spanAt 0)) ∧
    dec 0b0000000011010011 = .ok (.idlePreambleC (spanAt 0)) ∧
    dec 0b0000000001100010 = .ok (.idleNoise 0x62 (spanAt 0)) := by decide

theorem test_decode_protocolA :
    dec 0b0000000101100010 = .ok (.aSync2Ok (spanAt 0)) ∧
    dec 0b0000000100000000 = .ok (.aSync2Bad 0x00 (spanAt 0)) ∧
    dec 0b0000001000000101 = .ok (.aClass 0x05 (spanAt 0)) ∧
    dec 0b0000001100000001 = .ok (.aId 0x01 (spanAt 0)) ∧
    dec 0b0000010000000010 = .ok (.aLen1 0x02 (spanAt 0)) ∧
    dec 0b0000010111111111 = .ok (.aLen2 0xFF (spanAt 0)) ∧
    dec 0b0000011010110101 = .ok (.aPayload 0xB5 (spanAt 0)) := by decide

/-- The checksum rows of protocol A, with `ck_a = 06` and `ck_b = 17` (E6). -/
theorem test_decode_protocolA_checksum :
    dec 0b0000011100000110 ⟨0x06, 0x17, 0, 0, false⟩ = .ok (.aCkaOk 0x06 (spanAt 0)) ∧
    dec 0b0000011100000111 ⟨0x06, 0x17, 0, 0, false⟩ = .ok (.aCkaBad 0x07 (spanAt 0)) ∧
    dec 0b0000100000010111 ⟨0x06, 0x17, 0, 0, false⟩ = .ok (.aCkbOk 0x17 (spanAt 0)) ∧
    dec 0b0000100000011000 ⟨0x06, 0x17, 0, 0, false⟩ = .ok (.aCkbBad 0x18 (spanAt 0)) := by decide

/-- The rows of protocol B, with `nx = 5A` for the characters `5`, `A` (V-X-6). -/
theorem test_decode_protocolB :
    dec 0b0000100100101010 = .ok (.bEndDelim (spanAt 0)) ∧
    dec 0b0000100100100100 = .ok (.bBody 0x24 (spanAt 0)) ∧
    dec 0b0000101000110101 ⟨0, 0, 0x5A, 0, false⟩ = .ok (.bCk1Ok 0x35 (spanAt 0)) ∧
    dec 0b0000101001000001 ⟨0, 0, 0x5A, 0, false⟩ = .ok (.bCk1Bad 0x41 (spanAt 0)) ∧
    dec 0b0000101101000001 ⟨0, 0, 0x5A, 0, false⟩ = .ok (.bCk2Ok 0x41 (spanAt 0)) ∧
    dec 0b0000101101100001 ⟨0, 0, 0x5A, 0, false⟩ = .ok (.bCk2Bad 0x61 (spanAt 0)) ∧
    dec 0b0000110000001101 = .ok (.bCrOk (spanAt 0)) ∧
    dec 0b0000110000001010 = .ok (.bCrBad 0x0A (spanAt 0)) ∧
    dec 0b0000110100001010 = .ok (.bLfOk (spanAt 0)) ∧
    dec 0b0000110100001101 = .ok (.bLfBad 0x0D (spanAt 0)) := by decide

/-- The rows of protocol C, with `crc = 47EA4B` (E7). -/
theorem test_decode_protocolC :
    dec 0b0000111011111100 = .ok (.cLen1 0xFC (spanAt 0)) ∧
    dec 0b0000111100000010 = .ok (.cLen2 0x02 (spanAt 0)) ∧
    dec 0b0001000000111110 = .ok (.cType1 0x3E (spanAt 0)) ∧
    dec 0b0001000111010000 = .ok (.cType2 0xD0 (spanAt 0)) ∧
    dec 0b0001001000000001 ⟨0, 0, 0, 0, true⟩ = .ok (.cSubtype 0x01 (spanAt 0)) ∧
    dec 0b0001001011010011 = .ok (.cPayload 0xD3 (spanAt 0)) := by decide

theorem test_decode_protocolC_crc :
    dec 0b0001001101000111 ⟨0, 0, 0, 0x47EA4B, false⟩ = .ok (.cCrc1Ok 0x47 (spanAt 0)) ∧
    dec 0b0001001101001000 ⟨0, 0, 0, 0x47EA4B, false⟩ = .ok (.cCrc1Bad 0x48 (spanAt 0)) ∧
    dec 0b0001010011101010 ⟨0, 0, 0, 0x47EA4B, false⟩ = .ok (.cCrc2Ok 0xEA (spanAt 0)) ∧
    dec 0b0001010011101011 ⟨0, 0, 0, 0x47EA4B, false⟩ = .ok (.cCrc2Bad 0xEB (spanAt 0)) ∧
    dec 0b0001010101001011 ⟨0, 0, 0, 0x47EA4B, false⟩ = .ok (.cCrc3Ok 0x4B (spanAt 0)) ∧
    dec 0b0001010101001100 ⟨0, 0, 0, 0x47EA4B, false⟩ = .ok (.cCrc3Bad 0x4C (spanAt 0)) := by decide

theorem test_decode_abort_and_reserved :
    dec 0b0100000000000000 = .ok (.abortIdle (spanAt 0)) ∧
    dec 0b0101010100000000 = .ok (.abortFrame 21 (spanAt 0)) ∧
    dec 0b1000000010110101 = .ok (.reservedKind 0x00B5 (spanAt 0)) ∧
    dec 0b1100010100000000 = .ok (.reservedKind 0x4500 (spanAt 0)) := by decide

/-- What is no instruction: a reserved state code (R21), `W[13] = 1`, an `ABORT` word with a byte (R74). -/
theorem test_decode_rejects :
    dec 0b0001011000000000 = .error .noRow ∧ dec 0b0101011000000000 = .error .noRow ∧
    dec 0b0010000010110101 = .error .bit13Set ∧ dec 0b0100000000000001 = .error .noRow := by decide

/-- The host's interface on the table's numbering. -/
theorem test_decodeTableWord :
    decodeTableWord 16 0x0162 = some (.aSync2Ok ⟨0, 0⟩) ∧ decodeTableWord 8 0x00 = some (.reset .rev0) ∧
    decodeTableWord 16 0x1600 = none := by decide

/-- The word presented by `withFetchWord` is the one the next step runs. -/
theorem test_withFetchWord :
    seen (State.reset.withFetchWord 16 0x0162) = some (some ⟨.sync2, 0, 0⟩, St.aClass) ∧
    seen (State.reset.withFetchWord 16 0x4500) = some (some ⟨.invalid .abort, 0, 0⟩, St.idle) ∧
    seen (State.reset.withFetchWord 8 0) = some (none, St.idle) := by decide

/-! ### Single steps -/

/-- V-RST-1: a byte presented with `rst = 1` is dropped. -/
theorem test_reset :
    seenReg (fun t => (t.cls, t.lenb, t.fT0))
      { at' St.aLen2 with cls := 0x05, lenb := 0x02, fT0 := some 8, inp := [⟨true, true, kindByte, 0xB5, 10, 11, .rev0⟩] }
      = some (none, St.idle, 0, 0, none) := by decide
/-- V-MUX-1 -/
theorem test_idle_preambleA : seen (feed State.reset 0 0xB5) = some (some ⟨.markerA, 0, 1⟩, St.seenPreambleA1) := by decide
/-- V-MUX-2 -/
theorem test_idle_delimB :
    seenReg (fun t => (t.nx, t.fBuf, t.fT0)) (feed State.reset 0 0x24) = some (none, St.bBody, 0, [], some 0) := by decide
/-- V-MUX-3 -/
theorem test_idle_preambleC :
    seenReg (·.crc) (feed State.reset 0 0xD3) = some (some ⟨.markerC, 0, 1⟩, St.cLen1, 0xE33309) := by decide
/-- V-MUX-4 -/
theorem test_idle_noise : seen (feed State.reset 0 0xB4) = some (none, St.idle) := by decide
/-- V-A-1 -/
theorem test_a_sync2_ok : seen (feed (at' St.seenPreambleA1) 1 0x62) = some (some ⟨.sync2, 2, 3⟩, St.aClass) := by decide
/-- V-A-3 -/
theorem test_a_sync2_bad :
    seen (feed (at' St.seenPreambleA1) 1 0x24) = some (some ⟨.invalid .sync2, 2, 3⟩, St.idle) := by decide
/-- V-A-4: the engine is reset before the fold. -/
theorem test_a_class :
    seenReg (fun t => (t.cls, t.ckA, t.ckB)) (feed { at' St.aClass with ckA := 0x77, ckB := 0x88 } 2 0x05)
      = some (some ⟨.cls 0x05 (some "ACK"), 4, 5⟩, St.aId, 0x05, 0x05, 0x05) := by decide
/-- V-A-6: the second sum adds the new first sum. -/
theorem test_a_id :
    seenReg (fun t => (t.mid, t.ckA, t.ckB)) (feed { at' St.aId with cls := 0x05, ckA := 0x05, ckB := 0x05 } 3 0x01)
      = some (some ⟨.id 0x05 0x01 (some "ACK"), 6, 7⟩, St.aLen1, 0x01, 0x06, 0x0B) := by decide
/-- V-A-7: an id the ROM does not name. -/
theorem test_a_id_unnamed :
    seen (feed { at' St.aId with cls := 0x05 } 3 0x00) = some (some ⟨.id 0x05 0x00 none, 6, 7⟩, St.aLen1) := by decide
/-- V-A-8 -/
theorem test_a_len1 :
    seenReg (fun t => (t.lenb, t.ckA, t.ckB)) (feed { at' St.aLen1 with ckA := 0x06, ckB := 0x0B } 4 0x02)
      = some (none, St.aLen2, 0x02, 0x08, 0x13) ∧
    seenReg (·.fT0) (feed (at' St.aLen1) 4 0x02) = some (none, St.aLen2, some 8) := by decide
/-- V-A-9 -/
theorem test_a_len2 :
    seenReg (fun t => (t.plen, t.rem, t.ckB))
      (feed { at' St.aLen2 with lenb := 0x02, fT0 := some 8, ckA := 0x08, ckB := 0x13 } 5 0x00)
      = some (some ⟨.length 2, 8, 11⟩, St.aPayload, 2, 2, 0x1B) := by decide
/-- V-A-10 (zero length) and the byte order of the two bytes (R175: 0x0100 is 256). -/
theorem test_a_len2_zero_and_order :
    seen (feed { at' St.aLen2 with fT0 := some 8 } 5 0x00) = some (some ⟨.length 0, 8, 11⟩, St.aCka) ∧
    seen (feed { at' St.aLen2 with fT0 := some 8 } 5 0x01) = some (some ⟨.length 256, 8, 11⟩, St.aPayload) := by decide
/-- V-A-12: no field plan, so a placeholder; the last payload byte leads to the checksum. -/
theorem test_a_payload_placeholder :
    seenReg (fun t => (t.k, t.rem))
      (feed { at' St.aPayload with cls := 0x99, mid := 0x02, plen := 1, rem := 1 } 6 0xB5)
      = some (some ⟨.placeholder 0 0xB5, 12, 13⟩, St.aCka, 1, 0) := by decide
/-- V-FX-1: the second byte of "delta" completes it as a signed field over both bytes' span. -/
theorem test_a_payload_signed_field :
    seen (feed { inPayload 0x01 11 5 with fVal := 0xFE, fT0 := some 20, fLo := 4, fHi := 5, fValid := true } 11 0xFF)
      = some (some ⟨.fieldS "delta" (-2) .dec 2, 20, 23⟩, St.aPayload) := by decide
/-- V-A-13 -/
theorem test_a_cka_ok :
    seenReg (·.ckB) (feed { at' St.aCka with ckA := 0x06, ckB := 0x17 } 6 0x06)
      = some (some ⟨.valid .ckA, 12, 13⟩, St.aCkb, 0x17) := by decide
/-- V-A-14 -/
theorem test_a_cka_bad :
    seenReg (·.ckB) (feed { at' St.aCka with ckA := 0x06, ckB := 0x17 } 6 0x07)
      = some (some ⟨.invalid .ckA, 12, 13⟩, St.idle, 0) := by decide
/-- V-A-15 -/
theorem test_a_ckb_ok :
    seenReg (·.cls) (feed { at' St.aCkb with cls := 0x05, ckB := 0x17 } 7 0x17)
      = some (some ⟨.valid .ckB, 14, 15⟩, St.idle, 0) := by decide
/-- V-A-16 -/
theorem test_a_ckb_bad :
    seenReg (·.cls) (feed { at' St.aCkb with cls := 0x05, ckB := 0x17 } 7 0x18)
      = some (some ⟨.invalid .ckB, 14, 15⟩, St.idle, 0) := by decide
/-- V-B-3: an empty body. -/
theorem test_b_end_delim :
    seen (feed { at' St.bBody with fT0 := some 0 } 1 0x2A) = some (some ⟨.sentence [], 0, 3⟩, St.bCk1) := by decide
/-- V-B-1, and V-B-13: a `$` in the body is data. -/
theorem test_b_body :
    seenReg (fun t => (t.nx, t.fBuf)) (feed (at' St.bBody) 1 0x47) = some (none, St.bBody, 0x47, [0x47]) ∧
    seenReg (fun t => (t.nx, t.fBuf)) (feed { at' St.bBody with nx := 0x47, fBuf := [0x47] } 2 0x24)
      = some (none, St.bBody, 0x63, [0x47, 0x24]) := by decide
/-- 95_test_vectors.md section 2.7: a body longer than a finite `TEXT_CAP`. -/
theorem test_b_body_overflow :
    refusal (feed { at' St.bBody with textCap := some 1, fBuf := [0x47] } 2 0x50) = some .textOverflow := by decide
/-- V-B-4 -/
theorem test_b_ck1_ok :
    seen (feed { at' St.bCk1 with nx := 0x62 } 10 0x36) = some (some ⟨.valid .nmeaCk1, 20, 21⟩, St.bCk2) := by decide
/-- V-B-5 -/
theorem test_b_ck1_bad :
    seen (feed { at' St.bCk1 with nx := 0x62 } 10 0x37) = some (some ⟨.invalid .nmeaCk1, 20, 21⟩, St.idle) := by decide
/-- V-B-7 -/
theorem test_b_ck2_ok :
    seen (feed { at' St.bCk2 with nx := 0x62 } 11 0x32) = some (some ⟨.valid .nmeaCk2, 22, 23⟩, St.bCr) := by decide
/-- V-B-6: a lowercase `a` does not match. -/
theorem test_b_ck2_bad :
    seen (feed { at' St.bCk2 with nx := 0x5A } 4 0x61) = some (some ⟨.invalid .nmeaCk2, 8, 9⟩, St.idle) := by decide
/-- V-B-9 -/
theorem test_b_cr_ok : seen (feed (at' St.bCr) 12 0x0D) = some (some ⟨.term .cr, 24, 25⟩, St.bLf) := by decide
/-- 95_test_vectors.md section 2.7, code 6. -/
theorem test_b_cr_bad : seen (feed (at' St.bCr) 4 0x0A) = some (some ⟨.invalid .termCr, 8, 9⟩, St.idle) := by decide
/-- V-B-11 -/
theorem test_b_lf_ok :
    seenReg (·.fBuf) (feed { at' St.bLf with fBuf := [0x47] } 13 0x0A) = some (some ⟨.term .lf, 26, 27⟩, St.idle, []) := by
  decide
/-- V-B-12 -/
theorem test_b_lf_bad : seen (feed (at' St.bLf) 13 0x24) = some (some ⟨.invalid .termLf, 26, 27⟩, St.idle) := by decide
/-- V-R-1 -/
theorem test_c_len1 :
    seenReg (fun t => (t.lenb, t.crc, t.fT0)) (feed { at' St.cLen1 with crc := 0xE33309 } 1 0x00)
      = some (none, St.cLen2, 0x00, 0x19A569, some 2) := by decide
/-- V-R-5, and V-R-4 with the reserved bits ignored. -/
theorem test_c_len2 :
    seenReg (·.plen) (feed { at' St.cLen2 with lenb := 0x03, fT0 := some 2 } 2 0xFF)
      = some (some ⟨.length 1023, 2, 5⟩, St.cType1, 1023) ∧
    seen (feed { at' St.cLen2 with lenb := 0xFC, fT0 := some 2 } 2 0x00) = some (some ⟨.length 0, 2, 5⟩, St.cCrc1) := by
  decide
/-- V-R-6 -/
theorem test_c_type1 :
    seenReg (fun t => (t.cType, t.rem, t.fT0)) (feed { at' St.cType1 with plen := 2, rem := 2 } 3 0x3E)
      = some (none, St.cType2, 0x3E0, 1, some 6) := by decide
/-- V-R-7: a payload of one byte. -/
theorem test_c_type1_only_byte :
    seen (feed { at' St.cType1 with plen := 1, rem := 1 } 3 0xAB) = some (some ⟨.hex 0xAB, 6, 7⟩, St.cCrc1) := by decide
/-- V-R-8 -/
theorem test_c_type2 :
    seenReg (fun t => (t.cType, t.subPend)) (feed { at' St.cType2 with cType := 0x3E0, k := 1, rem := 1, fT0 := some 6 } 4 0xD0)
      = some (some ⟨.type 1005, 6, 9⟩, St.cCrc1, 0x3ED, false) := by decide
/-- V-R-10 at its event 4: a type with a subtype. -/
theorem test_c_type2_subtype :
    seenReg (fun t => (t.cSub, t.subPend, t.fT0))
      (feed { at' St.cType2 with cType := 0xFE0, k := 1, rem := 3, fT0 := some 6, subTypes := [4072] } 4 0x80)
      = some (some ⟨.type 4072, 6, 9⟩, St.cPayload, 0x000, true, some 8) := by decide
/-- V-R-10: the subtype byte. -/
theorem test_c_subtype :
    seenReg (fun t => (t.cSub, t.subPend)) (feed { at' St.cPayload with k := 2, rem := 2, fT0 := some 8, subPend := true } 5 0x01)
      = some (some ⟨.subtype 1, 8, 11⟩, St.cPayload, 0x001, false) := by decide
/-- V-R-12 -/
theorem test_c_payload :
    seen (feed { at' St.cPayload with plen := 4, k := 3, rem := 1 } 6 0xD3) = some (some ⟨.hex 0xD3, 12, 13⟩, St.cCrc1) := by decide
/-- V-R-13 -/
theorem test_c_crc1_ok :
    seen (feed { at' St.cCrc1 with crc := 0xA4E000 } 5 0xA4) = some (some ⟨.valid .crc1, 10, 11⟩, St.cCrc2) := by decide
/-- V-R-14 -/
theorem test_c_crc1_bad :
    seen (feed { at' St.cCrc1 with crc := 0xA4E000 } 5 0xA5) = some (some ⟨.invalid .crc1, 10, 11⟩, St.idle) := by decide
/-- V-R-15 -/
theorem test_c_crc2_ok :
    seen (feed { at' St.cCrc2 with crc := 0xA4E000 } 6 0xE0) = some (some ⟨.valid .crc2, 12, 13⟩, St.cCrc3) := by decide
/-- V-R-16 -/
theorem test_c_crc2_bad :
    seen (feed { at' St.cCrc2 with crc := 0xA4E000 } 6 0xE1) = some (some ⟨.invalid .crc2, 12, 13⟩, St.idle) := by decide
/-- V-R-17 -/
theorem test_c_crc3_ok :
    seenReg (·.crc) (feed { at' St.cCrc3 with crc := 0xA4E000 } 7 0x00) = some (some ⟨.valid .crc3, 14, 15⟩, St.idle, 0) := by decide
/-- V-R-18 -/
theorem test_c_crc3_bad :
    seenReg (·.crc) (feed { at' St.cCrc3 with crc := 0xA4E000 } 7 0x01)
      = some (some ⟨.invalid .crc3, 14, 15⟩, St.idle, 0) := by decide
/-- V-MUX-5 -/
theorem test_abort_idle : seen (feedAbort State.reset 2) = some (none, St.idle) := by decide
/-- V-MUX-7, event 5: `ABORT` in a sentence. -/
theorem test_abort_frame :
    seenReg (fun t => (t.nx, t.fBuf)) (feedAbort { at' St.bBody with nx := 0x47, fBuf := [0x47], fT0 := some 6 } 5)
      = some (some ⟨.invalid .abort, 10, 11⟩, St.idle, 0, []) := by decide
/-- V-MUX-6 -/
theorem test_reserved_kind :
    refusal { State.reset with inp := [⟨false, true, 0b10, 0xB5, 0, 1, .rev0⟩] } = some .reservedEventKind ∧
    refusal { State.reset with inp := [⟨false, true, 0b11, 0xB5, 0, 1, .rev0⟩] } = some .reservedEventKind := by decide

/-! ### The extractor -/

/-- V-FX-3: with a captured length 0 the region is not applicable. -/
theorem test_capture_zero_gives_placeholder :
    seen (feed { inPayload 0x01 9 8 with dynValid := true } 14 0x77) = some (some ⟨.placeholder 8 0x77, 28, 29⟩, St.aCka) := by decide
/-- V-FX-1: a captured length of one byte. -/
theorem test_capture_records_length :
    seenReg (fun t => (t.dynLen, t.dynValid)) (feed (inPayload 0x01 11 7) 13 0x03)
      = some (some ⟨.fieldU "nUser" 3 .dec 1, 26, 27⟩, St.aPayload, 3, true) := by decide
/-- V-FX-1: the last byte of the captured region. -/
theorem test_region_completes :
    seen (feed { inPayload 0x01 11 10 with
        dynLen := 3, dynValid := true, fT0 := some 28, fLo := 8, fHi := 10, fValid := true, fCnt := 2 } 16 0xBE)
      = some (some ⟨.region "userData" 3, 28, 33⟩, St.aCka) := by decide
/-- V-FX-4: one byte under the two revisions. -/
theorem test_revision_guard :
    seen (feed (inPayload 0x02 4 0) 6 0x01) = some (some ⟨.fieldU "hwGenA" 1 .dec 1, 12, 13⟩, St.aPayload) ∧
    seen (feed { inPayload 0x02 4 0 with cfgRev := .rev1 } 6 0x01)
      = some (some ⟨.fieldU "hwGenB" 1 .dec 1, 12, 13⟩, St.aPayload) := by decide
/-- V-FX-5: the text to the end of the payload. -/
theorem test_text_to_end :
    seen (feed { inPayload 0x02 4 3 with fT0 := some 14, fLo := 1, fHi := 3, fValid := true, fBuf := [0x31, 0x2E] } 9 0x30)
      = some (some ⟨.text "swVersion" [0x31, 0x2E, 0x30], 14, 19⟩, St.aCka) := by decide
/-- V-FX-9: at k = 3 the build in progress is not the one of "X". -/
theorem test_plan_mid_entry :
    refusal (feed { inPayload 0x04 4 3 with fLo := 2, fHi := 2 } 9 0x04) = some .planMidEntry := by decide

/-- 95_test_vectors.md section 2.2, the table of `Signed`. -/
theorem test_signed :
    Operands.signed 0x7F 1 = 127 ∧ Operands.signed 0x80 1 = -128 ∧ Operands.signed 0xFFFE 2 = -2 ∧
    Operands.signed 0x800000 3 = -8388608 ∧ Operands.signed 0x8000000000000000 8 = -9223372036854775808 := by decide

/-! ### The checksum engines -/

/-- V-FL-1, V-FL-2, V-FL-7. -/
theorem test_fletcher :
    Checksum.fletcher [] = (0x00, 0x00) ∧ Checksum.fletcher [0x05, 0x01, 0x00, 0x00] = (0x06, 0x17) ∧
    Checksum.fletcher [0xFF, 0x01] = (0x00, 0xFF) := by decide
/-- V-X-1, V-X-2 ("GPTXT,01"). -/
theorem test_xor8 :
    Checksum.xor8 [] = 0x00 ∧ Checksum.xor8 [0x47, 0x50, 0x54, 0x58, 0x54, 0x2C, 0x30, 0x31] = 0x62 := by decide
/-- V-C-1, V-C-2, V-C-5. -/
theorem test_crc24q :
    Checksum.crc24q [] = 0x000000 ∧ Checksum.crc24q [0xD3] = 0xE33309 ∧ Checksum.crc24q [0x01] = 0x864CFB := by decide
/-- V-C-2 to V-C-3: one more byte. -/
theorem test_crc_fold_second : Checksum.crcFold 0xE33309 0x00 = 0x19A569 := by decide
/-- V-C-3 to V-C-4: one more byte. -/
theorem test_crc_fold_third : Checksum.crcFold 0x19A569 0x00 = 0x47EA4B := by decide
/-- V-C-4, byte by byte. -/
theorem test_crc24q_empty_frame : Checksum.crc24q [0xD3, 0x00, 0x00] = 0x47EA4B := by
  rw [show Checksum.crc24q [0xD3, 0x00, 0x00] = Checksum.crcFold (Checksum.crcFold (Checksum.crc24q [0xD3]) 0x00) 0x00 from rfl,
    test_crc24q.2.1, test_crc_fold_second, test_crc_fold_third]

/-! ### The ROM, the rendering, the ports -/

/-- 95_test_vectors.md section 2.7, the `RomIllFormed` examples. -/
theorem test_rom_ill_formed :
    (field 4 (.fixed 2) "x" .region).wf = false ∧ (field 0 (.fixed 8) "x" .u).wf = false ∧
    ({ field 0 (.fixed 3) "x" .u with capture := true } : FieldDescriptor).wf = false ∧
    (field 0 .fromCapture "x" .u).wf = false ∧
    ({ field 0 (.fixed 0) "x" .u with lmin := 5, lmax := 4 } : FieldDescriptor).wf = false ∧
    (field 0 (.fixed 0) "" .u).wf = false ∧ trom.wf = true := by decide
/-- V-A-4, V-A-5, V-A-6, V-A-7: the reads of the ACK ROM. -/
theorem test_rom_reads :
    Registry.ack.romClass 0x05 = some "ACK" ∧ Registry.ack.romClass 0xB5 = none ∧
    Registry.ack.romId 0x05 0x01 = some "ACK" ∧ Registry.ack.romId 0x05 0x00 = none ∧
    Registry.ack.romIdByName "ACK" = some (0x05, 0x01) := by decide
/-- 30_encoding.md R84: examples of the default texts. -/
theorem test_render :
    Render.decInt (-2) = "-2" ∧ Render.hexByte 0xA5 = "0xA5" ∧ Render.hexFixed 4 0x1F = "001F" ∧ Render.dec 1023 = "1023" ∧
    Render.byteRun [0x01, 0xAB] = "0x01 0xAB" := by decide
/-- V-MUX-1 with timestamps of another type and a rendering of its own, and the default rendering (R84). -/
theorem test_parameters :
    (Parameters.mk String "" .rev0 Registry.ack none [] (fun l => [l.tag.zeroExtend 8])).texts
      [⟨false, true, kindByte, 0xB5, "t0", "t1", .rev0⟩] = [some ([0x01], "t0", "t1")] ∧
    ({ TS := String, unset := "", moduleRev := .rev0, registry := Registry.ack } : Parameters).render .markerA
      = Render.str "UBX Sync 1" := ⟨rfl, rfl⟩
/-- R22: the bounds of the protocols' state codes. -/
theorem test_active_protocol :
    activeProtocol 0 = some .none ∧ activeProtocol 1 = some .a ∧ activeProtocol 8 = some .a ∧ activeProtocol 9 = some .b ∧
    activeProtocol 13 = some .b ∧ activeProtocol 14 = some .c ∧ activeProtocol 21 = some .c ∧ activeProtocol 22 = none := by
  decide

/-! ### Witnesses: for every obligation with hypotheses, inputs that meet all of them, at the boundaries of each clause -/

open Sys2Proof.Claims

/-- A sample with `rst = 1`, a quiet sample, and a byte event. -/
def sampleReset (rev : ModuleRev) : Ports := ⟨true, false, 0, 0, 0, 0, rev⟩
def sampleQuiet : Ports := ⟨false, false, 0, 0, 0, 0, .rev0⟩

/-- A reachable state that is not `IDLE`, with a byte presented. -/
def midFrame : State := feed (at' St.seenPreambleA1) 1 0x62

/-- It meets the invariant. -/
theorem midFrame_inv : midFrame.Inv where
  legal := by decide
  idleClear := by intro h; revert h; decide
  counters := by intro h; revert h; decide
  offsets := by decide
  lengthC := by intro h; revert h; decide
  start := by intro h; revert h; decide
  subtype := by intro h; revert h; decide
  build := by intro h; revert h; decide
  engineA := by intro _; decide
  engineB := by intro _; decide
  engineC := by intro _; decide
  cap := by intro n h; cases h

theorem witness_EveryStateSelectsItsRows :
    (1 : BitVec 5) ≠ St.idle ∧ (1 : BitVec 5).toNat ≤ 21 ∧ (21 : BitVec 5) ≠ St.idle ∧ (21 : BitVec 5).toNat ≤ 21 := by decide

theorem witness_ExactlyOneRowPerByte : (21 : BitVec 5).toNat ≤ 21 ∧ ¬ (22 : BitVec 5).toNat ≤ 21 := by decide

theorem witness_DecodingAnEncodingGivesItBack :
    ((Instr.aCkaOk 0x06 (spanAt 6)).WellFormed ∧ RowCondition (.aCkaOk 0x06 (spanAt 6)) ⟨0x06, 0x17, 0, 0, false⟩) ∧
    ((Instr.abortFrame 21 (spanAt 6)).WellFormed ∧ RowCondition (.abortFrame 21 (spanAt 6)) CondRegs.reset) ∧
    ((Instr.reservedKind 0x5FFF (spanAt 6)).WellFormed ∧ RowCondition (.reservedKind 0x5FFF (spanAt 6)) CondRegs.reset) :=
  ⟨⟨by decide, rfl⟩, ⟨by decide, trivial⟩, ⟨by decide, trivial⟩⟩

theorem witness_EncodingADecodedWordGivesItBack :
    (EventWord.mk false .rev0 0x4500 (spanAt 6)).rst = false ∧
    decode ⟨false, .rev0, 0x4500, spanAt 6⟩ CondRegs.reset = .ok (.abortFrame 5 (spanAt 6)) := by decide

/-- One sample for each clause, each on a ROM that passes `WF`. -/
theorem witness_StepRunsTheSelectedRow :
    State.reset.rom.wf = true ∧ (sampleReset .rev1).rst = true ∧
    (sampleQuiet.rst = false ∧ sampleQuiet.cfgRev = State.reset.cfgRev ∧ sampleQuiet.evValid = false) ∧
    ((byteEvent .rev0 0xB5 (spanAt 0)).rst = false ∧ (byteEvent .rev0 0xB5 (spanAt 0)).evValid = true ∧
      decode ⟨false, .rev0, formWord kindByte State.reset.st 0xB5, spanAt 0⟩ State.reset.condRegs
        = .ok (.idlePreambleA (spanAt 0))) := by decide

theorem witness_EmptyQueueStepIsQuiet : State.reset.rom.wf = true ∧ State.reset.inp = [] := by decide

/-- The code after the last legal one faults on both event kinds; the last legal one does not. -/
theorem witness_StepFaultsOnlyInReservedStates :
    (match step (feed (at' 22) 0 0x00) with | .fault f => f == .reservedState | .next _ | .refused _ => false) = true ∧
    (match step (feedAbort (at' 31) 0) with | .fault f => f == .reservedState | .next _ | .refused _ => false) = true ∧
    (match step (feed (at' 21) 0 0x00) with | .fault _ => false | .next _ | .refused _ => true) = true := by decide

theorem witness_RevisionChangesOnlyAtReset :
    (∃ t, step { State.reset with inp := [sampleReset .rev1] } = .next t ∧ t.cfgRev = .rev1) ∧
    (State.reset.rom.wf = true ∧ sampleQuiet.rst = false ∧ sampleQuiet.cfgRev ≠ ModuleRev.rev1) :=
  ⟨⟨_, rfl, rfl⟩, by decide⟩

theorem witness_IllFormedRomIsRefused :
    ({ State.reset with rom := ⟨[⟨0x05, ""⟩], [], []⟩ } : State).rom.wf = false := by decide

/-- The hypotheses about the plan table: a matching entry with a non-matching one before it, and no matching entry. -/
theorem witness_RomReadsAnswerTheFirstMatch :
    (trom.pt = [⟨0x70, 0x01, planFields⟩] ++ ⟨0x70, 0x02, planVer⟩ :: [⟨0x70, 0x04, planOvl⟩] ∧
      ∀ y ∈ [PlanEntry.mk 0x70 0x01 planFields], ¬ (y.cls = 0x70 ∧ y.mid = 0x02)) ∧
    (∀ y ∈ trom.pt, ¬ (y.cls = 0x70 ∧ y.mid = 0x05)) := by decide

theorem witness_NoStepWritesTheRom : ∃ t, step midFrame = .next t := ⟨_, rfl⟩

theorem witness_AbortRowsResult : (0 : BitVec 5).toNat ≤ 21 ∧ (21 : BitVec 5).toNat ≤ 21 := by decide

theorem witness_ReservedKindsAreRefused : 2 ≤ (0b10 : BitVec 2).toNat ∧ 2 ≤ (0b11 : BitVec 2).toNat := by decide

theorem witness_OnlyIdleDispatchesOnAPreamble :
    ∃ t, step (feed State.reset 0 0xB5) = .next t ∧ t.st ∈ [St.seenPreambleA1, St.bBody, St.cLen1] :=
  ⟨_, rfl, by decide⟩

theorem witness_ReturnToIdleIsAFreshStart :
    (at' St.bLf).st ≠ St.idle ∧ ∃ t, step (feed (at' St.bLf) 13 0x0A) = .next t ∧ t.st = St.idle :=
  ⟨by decide, _, rfl, rfl⟩

theorem witness_SilentByteStepsAreExactlyTheListed :
    isByteRow (.aLen1 0x02 (spanAt 4)) = true ∧ ∃ t, exec (.aLen1 0x02 (spanAt 4)) (at' St.aLen1) = .next t :=
  ⟨rfl, _, rfl⟩

/-- A row that is not A.PAYLOAD, and A.PAYLOAD on a plan without guards. -/
theorem witness_RevisionIsReadOnlyByGuards :
    resetOf (.aLen1 0x02 (spanAt 4)) = none ∧ resetOf (.aPayload 0x02 (spanAt 4)) = none ∧
    ∀ d ∈ (inPayload 0x01 11 0).rom.romPlan (inPayload 0x01 11 0).cls (inPayload 0x01 11 0).mid, d.rev = .any := by decide

/-- The first and last state code of each protocol. -/
theorem witness_ActiveProtocolOfTheState :
    ∀ st ∈ [(0 : BitVec 5), 1, 8, 9, 13, 14, 21], st.toNat ≤ 21 := by decide

/-- A row other than RESET that answers a next state. -/
theorem witness_ResetClearsEveryRegister :
    resetOf (.aLen1 0x02 (spanAt 4)) = none ∧ ∃ u, exec (.aLen1 0x02 (spanAt 4)) (at' St.aLen1) = .next u := ⟨rfl, _, rfl⟩

theorem witness_ErrorCodePortReportsInvalid :
    ∃ ta te, ({ State.reset with ann := some ⟨.invalid .abort, 2, 3⟩ } : State).ann = some ⟨.invalid .abort, ta, te⟩ :=
  ⟨2, 3, rfl⟩

theorem witness_PayloadByteWithoutFieldResult :
    ∀ d ∈ (at' St.aPayload).rom.romPlan (at' St.aPayload).cls (at' St.aPayload).mid, ∀ e, ¬ Applicable d (at' St.aPayload) e := by
  intro d hd
  cases hd

/-- The first byte of "iTOW", its last byte, and a text byte into a buffer with room. -/
theorem witness_PayloadByteOfAFieldResult :
    (selectField (inPayload 0x01 11 0) = some (field 0 (.fixed 3) "iTOW" .u, 3) ∧ (inPayload 0x01 11 0).k = 0) ∧
    (selectField (inPayload 0x01 11 3) = some (field 0 (.fixed 3) "iTOW" .u, 3) ∧
      buildIs (field 0 (.fixed 3) "iTOW" .u) 3 { inPayload 0x01 11 3 with fValid := true, fLo := 0, fHi := 3 }) ∧
    (selectField (inPayload 0x02 4 1) = some (field 1 .toEnd "swVersion" .text, 3) ∧ (inPayload 0x02 4 1).k = 1 ∧
      ({ inPayload 0x02 4 1 with textCap := some 2 } : State).textCap
        ≠ some (opened (field 1 .toEnd "swVersion" .text) 3 (spanAt 7) (inPayload 0x02 4 1)).fBuf.length) :=
  ⟨by decide, ⟨by decide, rfl, rfl, rfl⟩, by decide⟩

/-- Both stops occur. -/
theorem witness_PayloadByteStopsExactlyWhen :
    exec (.aPayload 0x04 (spanAt 9)) { inPayload 0x04 4 3 with fLo := 2, fHi := 2 } = .refused .planMidEntry ∧
    exec (.aPayload 0x30 (spanAt 9))
      { inPayload 0x02 4 3 with textCap := some 2, fLo := 1, fHi := 3, fValid := true, fBuf := [0x31, 0x2E] }
      = .refused .textOverflow := ⟨rfl, rfl⟩

/-- A frame without payload and one with a payload byte. -/
theorem witness_ProtocolAFrameWindow :
    State.reset.st = St.idle ∧ State.reset.rom.wf = true ∧
    ([] : List (Byte × Span)).length = (0x00 : Byte).toNat + 256 * (0x00 : Byte).toNat ∧
    [((0x06 : Byte), spanAt 6)].length = (0x01 : Byte).toNat + 256 * (0x00 : Byte).toNat ∧
    (0x06 : Byte) = (Checksum.fletcher [0x05, 0x01, 0x00, 0x00]).1 ∧ State.reset.rom.romPlan 0x05 0x01 = [] := by decide

/-- The largest positive and the smallest negative value of widths 1 and 8. -/
theorem witness_SignedIsTwosComplement :
    (1 ≤ 1 ∧ 0x7F < 2 ^ (8 * 1) ∧ 0x7F < 2 ^ (8 * 1 - 1)) ∧ (0x80 < 2 ^ (8 * 1) ∧ 2 ^ (8 * 1 - 1) ≤ 0x80) ∧
    (0x8000000000000000 < 2 ^ (8 * 8) ∧ 2 ^ (8 * 8 - 1) ≤ 0x8000000000000000) := by decide

/-- "iTOW" in a payload of 2 bytes, at its last declared byte. -/
theorem witness_CutOffFieldIsNeverEmitted :
    selectField { inPayload 0x01 2 1 with fValid := true, fHi := 3 } = some (field 0 (.fixed 3) "iTOW" .u, 3) ∧
    (inPayload 0x01 2 1).k.toNat < (inPayload 0x01 2 1).plen.toNat ∧ (inPayload 0x01 2 1).plen.toNat ≤ 3 ∧
    ∃ t, exec (.aPayload 0x00 (spanAt 7)) { inPayload 0x01 2 1 with fValid := true, fHi := 3 } = .next t :=
  ⟨by decide, by decide, by decide, _, rfl⟩

theorem witness_RevisionChangesOnlyTheName :
    ({ field 0 (.fixed 0) "hwGenA" .u with rev := .rev0 } : FieldDescriptor).rev = .rev0 ∧
    ({ at' St.aPayload with rom := ⟨[], [], [⟨0, 0, planVer.take 2⟩]⟩ } : State).rom.romPlan 0 0
      = [{ field 0 (.fixed 0) "hwGenA" .u with rev := .rev0 },
         { ({ field 0 (.fixed 0) "hwGenA" .u with rev := .rev0 } : FieldDescriptor) with name := "hwGenB", rev := .rev1 }] := by
  decide

/-- A buffer with room for one more byte, and a full one. -/
theorem witness_BodyRowsResult :
    ({ at' St.bBody with textCap := some 1 } : State).textCap ≠ some (at' St.bBody).fBuf.length ∧
    ({ at' St.bBody with textCap := some 1, fBuf := [0x47] } : State).textCap = some [(0x47 : Byte)].length := by decide

/-- The sentence `$A*41` in a buffer of exactly one byte. -/
theorem witness_ProtocolBSentenceWindow :
    ({ State.reset with textCap := some 1 } : State).st = St.idle ∧ ({ State.reset with textCap := some 1 } : State).rom.wf = true ∧
    (∀ x ∈ [((0x41 : Byte), spanAt 1)], x.1 ≠ 0x2A) ∧
    (∀ n, ({ State.reset with textCap := some 1 } : State).textCap = some n → [((0x41 : Byte), spanAt 1)].length ≤ n) ∧
    (0x34 : Byte) = Operands.hexChar ((Checksum.xor8 [0x41]).extractLsb' 4 4) ∧
    (0x31 : Byte) = Operands.hexChar ((Checksum.xor8 [0x41]).extractLsb' 0 4) :=
  ⟨rfl, by decide, by decide, by intro n h; cases h; decide, by decide, by decide⟩

theorem witness_FlippedBodyBitChangesOneCharacter : 0 < 8 ∧ 3 < 4 ∧ 4 ≤ 4 ∧ 7 < 8 := by decide

/-- C.TYPE1 on the last payload byte and before it; C.TYPE2 with and without a subtype. -/
theorem witness_TypeRowsResult :
    ({ at' St.cType1 with rem := 1 } : State).rem = 1 ∧ ({ at' St.cType1 with rem := 2 } : State).rem ≠ 1 ∧
    (Operands.typeLow 0xFE0 0x80 ∈ ([4072] : List (BitVec 12)) ∧ 1 ≤ ((2 : BitVec 16) - 1).toNat) ∧
    ¬ (Operands.typeLow 0xFE0 0x80 ∈ ([4072] : List (BitVec 12)) ∧ 1 ≤ ((1 : BitVec 16) - 1).toNat) := by decide

/-- The frame without payload of E7, and its CRC bytes. -/
theorem witness_ProtocolCFrameWindow :
    State.reset.st = St.idle ∧ State.reset.subPend = false ∧ State.reset.rom.wf = true ∧
    ([] : List (Byte × Span)).length = ((0x00 : Byte).toNat % 4) * 256 + (0x00 : Byte).toNat ∧
    (0x47 : Byte).toNat * 65536 + (0xEA : Byte).toNat * 256 + (0x4B : Byte).toNat
      = (Checksum.crc24q ([0xD3, 0x00, 0x00] ++ ([] : List (Byte × Span)).map (·.1))).toNat :=
  ⟨rfl, rfl, by decide, by decide, by
    rw [show ([0xD3, 0x00, 0x00] ++ ([] : List (Byte × Span)).map (·.1) : List Byte) = [0xD3, 0x00, 0x00] from rfl,
      test_crc24q_empty_frame]
    rfl⟩

theorem witness_IntegerBytesAreLittleEndian : ([0x01, 0x02, 0x03, 0x04, 0x05, 0x06, 0x07, 0x08] : List Byte).length ≤ 8 := by
  decide

/-- The last decimal digit, the first letter and the last one. -/
theorem witness_HexCharGivesUppercaseHexDigits :
    (9 : BitVec 4).toNat < 10 ∧ Operands.hexChar 9 = 0x39 ∧ 10 ≤ (10 : BitVec 4).toNat ∧ Operands.hexChar 10 = 0x41 ∧
    Operands.hexChar 15 = 0x46 := by decide

theorem witness_OneCorruptedByteChangesTheCrc : (0x3E : Byte) ≠ 0xBE := by decide

theorem witness_EveryStepKeepsTheInvariant : midFrame.Inv ∧ ∃ t, step midFrame = .next t := ⟨midFrame_inv, _, rfl⟩

theorem witness_TimestampsArePassedThrough : midFrame.Inv := midFrame_inv

/-- A byte, an idle step and a reset. -/
theorem witness_BlockNeverStopsButForMidEntry :
    midFrame.Inv ∧ midFrame.rom.wf = true ∧ midFrame.textCap = none ∧ midFrame.inp = byteEvent .rev0 0x62 (spanAt 1) :: [] ∧
    ((byteEvent .rev0 0x62 (spanAt 1)).cfgRev = midFrame.cfgRev ∧ (byteEvent .rev0 0x62 (spanAt 1)).evKind.toNat < 2) ∧
    (sampleReset .rev1).rst = true ∧ (sampleQuiet.cfgRev = midFrame.cfgRev ∧ sampleQuiet.evValid = false) :=
  ⟨midFrame_inv, by decide, rfl, rfl, by decide, rfl, by decide⟩

end Sys2Proof.Tests
end

section
/-! PROOFS. Renaming timestamps commutes with row selection (rules R62, R74), and which rows read `f_t0` (rule R39). -/

namespace Sys2Proof

/-- The timestamps of a span renamed. -/
def Span.mapTs (f : TS → TS) (sp : Span) : Span := ⟨f sp.t0, f sp.t1⟩

/-- The timestamps of an instruction's span renamed. -/
def Instr.mapTs (f : TS → TS) : Instr → Instr
  | .reset rev => .reset rev
  | .idlePreambleA sp => .idlePreambleA (sp.mapTs f)
  | .idleDelimB sp => .idleDelimB (sp.mapTs f)
  | .idlePreambleC sp => .idlePreambleC (sp.mapTs f)
  | .idleNoise b sp => .idleNoise b (sp.mapTs f)
  | .aSync2Ok sp => .aSync2Ok (sp.mapTs f)
  | .aSync2Bad b sp => .aSync2Bad b (sp.mapTs f)
  | .aClass b sp => .aClass b (sp.mapTs f)
  | .aId b sp => .aId b (sp.mapTs f)
  | .aLen1 b sp => .aLen1 b (sp.mapTs f)
  | .aLen2 b sp => .aLen2 b (sp.mapTs f)
  | .aPayload b sp => .aPayload b (sp.mapTs f)
  | .aCkaOk b sp => .aCkaOk b (sp.mapTs f)
  | .aCkaBad b sp => .aCkaBad b (sp.mapTs f)
  | .aCkbOk b sp => .aCkbOk b (sp.mapTs f)
  | .aCkbBad b sp => .aCkbBad b (sp.mapTs f)
  | .bEndDelim sp => .bEndDelim (sp.mapTs f)
  | .bBody b sp => .bBody b (sp.mapTs f)
  | .bCk1Ok b sp => .bCk1Ok b (sp.mapTs f)
  | .bCk1Bad b sp => .bCk1Bad b (sp.mapTs f)
  | .bCk2Ok b sp => .bCk2Ok b (sp.mapTs f)
  | .bCk2Bad b sp => .bCk2Bad b (sp.mapTs f)
  | .bCrOk sp => .bCrOk (sp.mapTs f)
  | .bCrBad b sp => .bCrBad b (sp.mapTs f)
  | .bLfOk sp => .bLfOk (sp.mapTs f)
  | .bLfBad b sp => .bLfBad b (sp.mapTs f)
  | .cLen1 b sp => .cLen1 b (sp.mapTs f)
  | .cLen2 b sp => .cLen2 b (sp.mapTs f)
  | .cType1 b sp => .cType1 b (sp.mapTs f)
  | .cType2 b sp => .cType2 b (sp.mapTs f)
  | .cSubtype b sp => .cSubtype b (sp.mapTs f)
  | .cPayload b sp => .cPayload b (sp.mapTs f)
  | .cCrc1Ok b sp => .cCrc1Ok b (sp.mapTs f)
  | .cCrc1Bad b sp => .cCrc1Bad b (sp.mapTs f)
  | .cCrc2Ok b sp => .cCrc2Ok b (sp.mapTs f)
  | .cCrc2Bad b sp => .cCrc2Bad b (sp.mapTs f)
  | .cCrc3Ok b sp => .cCrc3Ok b (sp.mapTs f)
  | .cCrc3Bad b sp => .cCrc3Bad b (sp.mapTs f)
  | .abortIdle sp => .abortIdle (sp.mapTs f)
  | .abortFrame code sp => .abortFrame code (sp.mapTs f)
  | .reservedKind low sp => .reservedKind low (sp.mapTs f)

/-- The timestamps of a presented event renamed. -/
def EventWord.mapTs (f : TS → TS) (e : EventWord) : EventWord := { e with sp := e.sp.mapTs f }

/-- Every row builds its instruction with the event's span or without one. -/
theorem build_mapTs (f : TS → TS) (e : EventWord) :
    ∀ row ∈ rows, row.build (e.mapTs f) = (row.build e).mapTs f := by
  simp [rows, rowsReset, rowsIdle, rowsA, rowsB, rowsC, rowsOther, Instr.mapTs, EventWord.mapTs]

/-- Row selection reads no timestamp (R74). -/
theorem decode_mapTs (f : TS → TS) (e : EventWord) (r : CondRegs) :
    decode (e.mapTs f) r = (decode e r).map (Instr.mapTs f) := by
  have hsel : (fun row : Row => row.selects (e.mapTs f) r) = fun row => row.selects e r := rfl
  unfold decode
  rw [hsel]
  change (if (!e.rst && e.w.getLsbD 13) = true then _ else _) = _
  split
  · rfl
  · cases hf : rows.find? (fun row => row.selects e r) with
    | none => rfl
    | some row => simp [Except.map, build_mapTs f e row (List.mem_of_find?_eq_some hf)]

/-- The rows whose rule reads `f_t0` without setting it in the same step (R175, R200, R221, R223, R224). -/
def Instr.readsStart : Instr → Bool
  | .aLen2 _ _ | .bEndDelim _ | .cLen2 _ _ | .cType2 _ _ | .cSubtype _ _ => true
  | _ => false

/-- The table: a row that reads the start fixes a state code of `startStates`, or asks for `sub_pend = 1`. -/
theorem row_readsStart (e : EventWord) :
    ∀ row ∈ rows, (row.build e).readsStart = true →
      (wordState row.mask = BitVec.allOnes 5 ∧ wordState row.pat ∈ Machine.startStates) ∨ row.cond = .subPend1 := by
  simp [rows, rowsReset, rowsIdle, rowsA, rowsB, rowsC, rowsOther, Instr.readsStart]
  -- the four rows that remain beside C.SUBTYPE, each with a fixed state code
  decide

theorem wordState_and (v w : BitVec 16) : wordState (v &&& w) = wordState v &&& wordState w := by
  simp [wordState, BitVec.extractLsb'_and]

/-- A selected row that reads the start was selected in one of `startStates`, or with `sub_pend = 1`. -/
theorem decode_readsStart {e : EventWord} {r : CondRegs} {i : Instr} (h : decode e r = .ok i) (hi : i.readsStart = true) :
    wordState e.w ∈ Machine.startStates ∨ r.subPend = true := by
  obtain ⟨row, -, hmem, hsel, rfl, -⟩ := decode_ok h
  simp only [Row.selects, Bool.and_eq_true, beq_iff_eq] at hsel
  obtain ⟨hpat, hcond⟩ := hsel
  rcases row_readsStart e row hmem hi with ⟨hmask, hst⟩ | hsub
  · left
    rwa [← hpat, wordState_and, hmask, BitVec.and_allOnes] at hst
  · right
    rwa [hsub] at hcond

namespace Machine

/-- `f_t0` is set wherever a rule reads it: the part of `State.Inv` that every step keeps by itself (R39). -/
def State.StartRecorded (s : State) : Prop :=
  s.st ∈ startStates ∨ s.subPend = true ∨ s.fValid = true → s.fT0.isSome = true

theorem State.Inv.startRecorded {s : State} (h : s.Inv) : s.StartRecorded := by
  rintro (hst | hsub | hval)
  · exact h.start hst
  · exact (h.subtype hsub).2
  · exact h.build hval

theorem startRecorded_of_decode {s : State} {p : Ports} {i : Instr} (hs : s.StartRecorded)
    (h : decode (eventWord p s) s.condRegs = .ok i) (hi : i.readsStart = true) : s.fT0.isSome = true := by
  rcases decode_readsStart h hi with hst | hsub
  · exact hs (.inl (by simpa [eventWord] using hst))
  · exact hs (.inr (.inl hsub))

end Machine
end Sys2Proof
end

section
/-! PROOFS. Renaming timestamps commutes with the rule of every row that reads no unset `f_t0` (rule R62). -/

namespace Sys2Proof.Machine

/-- Whether C.TYPE2 on byte `b` starts a subtype (R223). -/
def typeHasSubtype (b : Byte) (s : State) : Bool :=
  s.subTypes.contains (Operands.typeLow s.cType b) && decide (1 ≤ (s.rem - 1).toNat)

/-- C.TYPE2 in full, with and without a subtype (R223). -/
theorem execCType2_eq (b : Byte) (sp : Span) (s : State) :
    execCType2 b sp s = .next { s with
      st := if s.rem - 1 = 0 then St.cCrc1 else St.cPayload
      crc := Checksum.crcFold s.crc b
      k := s.k + 1
      rem := s.rem - 1
      fT0 := if typeHasSubtype b s then some sp.t0 else s.fT0
      cType := Operands.typeLow s.cType b
      cSub := if typeHasSubtype b s then Operands.subHigh b else s.cSub
      subPend := typeHasSubtype b s || s.subPend
      ann := some ⟨.type (Operands.typeLow s.cType b), s.startTime sp, sp.t1⟩ } := by
  change Host.Outcome.next
    (let s2 : State := if typeHasSubtype b s then _ else _
     s2.goto (if s2.rem = 0 then _ else _)) = _
  cases typeHasSubtype b s <;> rfl

section
variable (f : TS → TS)

/-- A set start time is renamed with the state that holds it. -/
theorem startTime_mapTs {s : State} (h : s.fT0.isSome = true) (sp : Span) :
    (s.mapTs f).startTime (sp.mapTs f) = f (s.startTime sp) := by
  obtain ⟨ta, hta⟩ := Option.isSome_iff_exists.mp h
  simp [State.startTime, State.mapTs, hta]

theorem openBuild_mapTs (d : FieldDescriptor) (e : Nat) (sp : Span) (s : State) :
    openBuild d e (sp.mapTs f) (s.mapTs f) = (openBuild d e sp s).map (State.mapTs f) := by
  change (if s.k = d.lo then _ else if continues d e s then _ else _) = _
  unfold openBuild
  split
  · rfl
  · split <;> rfl

theorem accumulate_mapTs (d : FieldDescriptor) (b : Byte) (s : State) :
    accumulate d b (s.mapTs f) = (accumulate d b s).map (State.mapTs f) := by
  have hbytes : accumulateBytes b (s.mapTs f) = (accumulateBytes b s).map (State.mapTs f) := by
    change (if s.bufFull then _ else _) = _
    unfold accumulateBytes
    split <;> rfl
  unfold accumulate
  cases d.kind
  case text | array => exact hbytes
  case u | s | region => rfl

theorem complete_mapTs (d : FieldDescriptor) (e : Nat) (sp : Span) {s : State} (h : s.fT0.isSome = true) :
    complete d e (sp.mapTs f) (s.mapTs f) = (complete d e sp s).mapTs f := by
  rw [complete_eq, complete_eq, startTime_mapTs f h]
  rfl

/-- An open build has a start time: its own, or that of the build in progress (R125, R126, R130). -/
theorem openBuild_fT0 {d : FieldDescriptor} {e : Nat} {sp : Span} {s t : State} (hs : s.StartRecorded)
    (h : openBuild d e sp s = .ok t) : t.fT0.isSome = true := by
  rcases openBuild_cases h with ⟨-, rfl⟩ | ⟨-, hc, rfl⟩
  · rfl
  · simp only [continues, Bool.and_eq_true] at hc
    exact hs (.inr (.inr hc.1.1))

theorem accumulate_fT0 {d : FieldDescriptor} {b : Byte} {s t : State} (h : accumulate d b s = .ok t) : t.fT0 = s.fT0 := by
  rcases accumulate_cases h with ⟨-, rfl⟩ | ⟨-, -, rfl⟩ | ⟨-, rfl⟩ <;> rfl

theorem extract_mapTs (b : Byte) (sp : Span) {s : State} (hs : s.StartRecorded) :
    extract b (sp.mapTs f) (s.mapTs f) = (extract b sp s).map (State.mapTs f) := by
  have hsel : selectField (s.mapTs f) = selectField s := rfl
  unfold extract
  rw [hsel]
  cases selectField s with
  | none => rfl
  | some x =>
    obtain ⟨d, e⟩ := x
    simp only [openBuild_mapTs]
    cases hopen : openBuild d e sp s with
    | error r => rfl
    | ok s1 =>
      simp only [Except.map, accumulate_mapTs]
      cases hacc : accumulate d b s1 with
      | error r => rfl
      | ok s2 =>
        have hstart : s2.fT0.isSome = true := accumulate_fT0 hacc ▸ openBuild_fT0 hs hopen
        simp only [complete_mapTs f d e sp hstart, apply_ite (State.mapTs f)]
        rfl

theorem execAPayload_mapTs (b : Byte) (sp : Span) {s : State} (hs : s.StartRecorded) :
    execAPayload b (sp.mapTs f) (s.mapTs f) = mapNext (State.mapTs f) (execAPayload b sp s) := by
  have hx : extract b (sp.mapTs f) ((s.mapTs f).quiet.foldFletcher b) =
      (extract b sp (s.quiet.foldFletcher b)).map (State.mapTs f) :=
    extract_mapTs f b sp (s := s.quiet.foldFletcher b) hs
  unfold execAPayload
  rw [hx]
  cases extract b sp (s.quiet.foldFletcher b) with
  | error r => rfl
  | ok t => simp only [Except.map, mapNext, apply_ite (State.mapTs f)]; rfl

theorem execCType2_mapTs (b : Byte) (sp : Span) {s : State} (h : s.fT0.isSome = true) :
    execCType2 b (sp.mapTs f) (s.mapTs f) = mapNext (State.mapTs f) (execCType2 b sp s) := by
  have hsub : typeHasSubtype b (s.mapTs f) = typeHasSubtype b s := rfl
  rw [execCType2_eq, execCType2_eq, startTime_mapTs f h, hsub]
  cases typeHasSubtype b s <;> rfl

theorem execBBody_mapTs (b : Byte) (s : State) :
    execBBody b (s.mapTs f) = mapNext (State.mapTs f) (execBBody b s) := by
  unfold execBBody
  simp only [apply_ite (mapNext (State.mapTs f))]
  rfl

/-- Renaming timestamps commutes with every row's rule, where `f_t0` is set if the rule reads it (R62). -/
theorem exec_mapTs {i : Instr} {s : State} (hs : s.StartRecorded) (hi : i.readsStart = true → s.fT0.isSome = true) :
    exec (i.mapTs f) (s.mapTs f) = mapNext (State.mapTs f) (exec i s) := by
  cases i
  case cType2 b sp => exact execCType2_mapTs f b sp (hi rfl)
  case aLen2 b sp | bEndDelim sp | cLen2 b sp | cSubtype b sp =>
    have hstart := startTime_mapTs f (hi rfl) sp
    simp only [exec, Instr.mapTs, execALen2, execBEndDelim, execCLen2, execCSubtype, hstart, mapNext,
      apply_ite (State.mapTs f)]
    rfl
  case aPayload b sp => exact execAPayload_mapTs f b sp hs
  case bBody b sp => exact execBBody_mapTs f b s
  case cType1 b sp | cPayload b sp =>
    simp only [exec, Instr.mapTs, execCType1, execCPayload, mapNext, apply_ite (State.mapTs f)]
    rfl
  -- the other rules copy the event's timestamps and have no branch
  all_goals rfl

end

end Sys2Proof.Machine
end

section
/-! PROOFS. Every step keeps a start time wherever a rule reads one (R39), so renaming timestamps commutes with the step and
with the trace of a run (R62). -/

namespace Sys2Proof.Machine

theorem State.StartRecorded.of_start {t : State} (h : t.fT0.isSome = true) : t.StartRecorded := fun _ => h

/-- After `ClearFrame` in `IDLE` no rule reads a start time (R37). -/
theorem State.StartRecorded.of_idle {t : State} (hst : t.st = St.idle) (hsub : t.subPend = false) (hval : t.fValid = false) :
    t.StartRecorded := by
  simp [State.StartRecorded, hst, hsub, hval, startStates]

theorem State.StartRecorded.goto {s : State} {code : BitVec 5} (hs : s.StartRecorded) (hc : code ∉ startStates) :
    (s.goto code).StartRecorded :=
  fun h => hs (.inr (h.resolve_left hc))

theorem State.StartRecorded.goto_ite {s : State} {c : Prop} [Decidable c] {code code' : BitVec 5} (hs : s.StartRecorded)
    (hc : code ∉ startStates) (hc' : code' ∉ startStates) : (s.goto (if c then code else code')).StartRecorded :=
  hs.goto (by split <;> assumption)

theorem State.StartRecorded.extract {b : Byte} {sp : Span} {s t : State} (hs : s.StartRecorded)
    (h : extract b sp s = .ok t) : t.StartRecorded := by
  rcases extract_cases h with ⟨-, rfl⟩ | ⟨d, e, s1, s2, -, hopen, hacc, hend⟩
  · exact hs
  · have hstart : s2.fT0.isSome = true := accumulate_fT0 hacc ▸ openBuild_fT0 hs hopen
    rcases hend with ⟨-, rfl⟩ | ⟨-, rfl⟩
    · exact .of_start (by simpa [complete_eq] using hstart)
    · exact .of_start hstart

theorem State.StartRecorded.execAPayload {b : Byte} {sp : Span} {s t : State} (hs : s.StartRecorded)
    (h : execAPayload b sp s = .next t) : t.StartRecorded := by
  unfold Machine.execAPayload at h
  split at h
  · cases h
  · rename_i s1 hx
    have h1 : s1.StartRecorded := State.StartRecorded.extract (s := s.quiet.foldFletcher b) hs hx
    cases h
    split
    · exact .goto h1 (by decide)
    · exact h1

/-- Every row keeps a start time wherever a rule reads one: it sets `f_t0`, or clears the frame, or leaves `f_t0` and enters no
state that reads it (R39). -/
theorem State.StartRecorded.exec {i : Instr} {s t : State} (hs : s.StartRecorded) (h : exec i s = .next t) :
    t.StartRecorded := by
  cases i
  case reset | aSync2Bad | aCkaBad | aCkbOk | aCkbBad | bCk1Bad | bCk2Bad | bCrBad | bLfOk | bLfBad | cCrc1Bad | cCrc2Bad
      | cCrc3Ok | cCrc3Bad | abortFrame =>
    cases h
    exact .of_idle rfl rfl rfl
  case idleDelimB | aLen1 | cLen1 =>
    cases h
    exact .of_start rfl
  case idleNoise | abortIdle =>
    cases h
    exact hs
  case idlePreambleA | idlePreambleC | aSync2Ok | aClass | aId | aCkaOk | bEndDelim | bCk1Ok | bCk2Ok | bCrOk | cCrc1Ok
      | cCrc2Ok =>
    cases h
    exact .goto hs (by decide)
  case aLen2 | cLen2 =>
    cases h
    exact .goto_ite hs (by decide) (by decide)
  case aPayload => exact hs.execAPayload h
  case bBody =>
    dsimp only [Machine.exec, execBBody] at h
    split at h
    · cases h
    · cases h
      exact hs
  case cType1 =>
    cases h
    split
    · exact .goto hs (by decide)
    · exact .of_start rfl
  case cType2 =>
    cases h
    refine .goto_ite ?_ (by decide) (by decide)
    split
    · exact .of_start rfl
    · exact hs
  case cSubtype b sp =>
    have hsub : State.StartRecorded { s with subPend := false } := fun h =>
      hs (h.imp_right fun hread => .inr (hread.resolve_left nofun))
    cases h
    split
    · exact .goto hsub (by decide)
    · exact hsub
  case cPayload =>
    cases h
    split
    · exact .goto hs (by decide)
    · exact hs
  case reservedKind => cases h

theorem State.StartRecorded.step {s t : State} (hs : s.StartRecorded) (h : step s = .next t) : t.StartRecorded := by
  rcases step_cases h with ⟨u, hf, rfl⟩ | ⟨i, u, hf, hx⟩
  · rcases fetch_noEvent hf with ⟨-, rfl⟩ | ⟨p, rest, -, -, -, -, rfl⟩ <;> exact hs
  · obtain ⟨p, rest, -, -, rfl, -⟩ := fetch_run hf
    exact State.StartRecorded.exec (s := { s with inp := rest }) hs hx

section
variable (f : TS → TS)

/-- The timestamps of a selected row and of the state it runs on renamed. -/
def Fetch.mapTs : Fetch → Fetch
  | .stop r => .stop r
  | .refuse r => .refuse r
  | .noEvent s => .noEvent (s.mapTs f)
  | .run i s => .run (i.mapTs f) (s.mapTs f)

theorem present_mapTs (p : Ports) (s : State) : present (p.mapTs f) (s.mapTs f) = (present p s).mapTs f := by
  have hd : decode (eventWord (p.mapTs f) (s.mapTs f)) (s.mapTs f).condRegs =
      (decode (eventWord p s) s.condRegs).map (Instr.mapTs f) := decode_mapTs f (eventWord p s) s.condRegs
  unfold present
  rw [hd]
  change (if !p.rst && p.cfgRev != s.cfgRev then _ else if !p.rst && !p.evValid then _ else _) = _
  split
  · rfl
  · split
    · rfl
    · cases decode (eventWord p s) s.condRegs <;> rfl

theorem fetch_mapTs (s : State) : fetch (s.mapTs f) = (fetch s).mapTs f := by
  have hinp : (s.mapTs f).inp = s.inp.map (PortsOf.mapTs f) := rfl
  unfold fetch
  rw [hinp]
  change (if s.rom.wf then _ else _) = _
  split
  · cases s.inp with
    | nil => rfl
    | cons p rest => exact present_mapTs f p { s with inp := rest }
  · rfl

/-- Renaming timestamps commutes with the step wherever a start time is recorded (R62). -/
theorem step_mapTs {s : State} (hs : s.StartRecorded) : step (s.mapTs f) = mapNext (State.mapTs f) (step s) := by
  unfold step
  rw [fetch_mapTs]
  cases hf : fetch s with
  | stop r => rfl
  | refuse r => rfl
  | noEvent u => rfl
  | run i u =>
    obtain ⟨p, rest, -, -, rfl, -, hd⟩ := fetch_run hf
    have hu : State.StartRecorded { s with inp := rest } := hs
    exact exec_mapTs f hu (startRecorded_of_decode hu hd)

theorem trace_mapTs (n : Nat) {s : State} (hs : s.StartRecorded) :
    trace n (s.mapTs f) = (trace n s).map (Option.map (AnnotationOf.mapTs f)) := by
  induction n generalizing s with
  | zero => rfl
  | succ n ih =>
    unfold trace
    rw [step_mapTs f hs]
    cases hstep : step s with
    | next t => exact congrArg (_ :: ·) (ih (hs.step hstep))
    | fault r => rfl
    | refused r => rfl

end

end Sys2Proof.Machine
end

section
/-! PROOFS. The run over the parameters (rule R7): the names of the timestamps read back, and the two statements on it. -/

namespace Sys2Proof.Machine

/-- Reading the timestamps through `g` and then through `h`. -/
theorem AnnotationOf.mapTs_comp {T U V : Type} (h : U → V) (g : T → U) :
    AnnotationOf.mapTs h ∘ AnnotationOf.mapTs g = AnnotationOf.mapTs (h ∘ g) := rfl

/-- Sample `i` gets the names `2 (n + i)` and `2 (n + i) + 1` (log entry 1). -/
theorem nameTimestamps_getElem? {T : Type} (n i : Nat) (samples : List (PortsOf T)) :
    (nameTimestamps n samples)[i]? = samples[i]?.map fun p =>
      ⟨p.rst, p.evValid, p.evKind, p.evByte, 2 * (n + i), 2 * (n + i) + 1, p.cfgRev⟩ := by
  induction samples generalizing n i with
  | nil => rfl
  | cons p ps ih =>
    cases i with
    | zero => rfl
    | succ i => simp [nameTimestamps, ih, Nat.add_right_comm n 1 i, ← Nat.add_assoc]

namespace Parameters

variable (P : Parameters) {samples : List (PortsOf P.TS)} {i : Nat} {p : PortsOf P.TS}

theorem timestamp_start (h : samples[i]? = some p) : P.timestamp samples (2 * i) = p.evT0 := by
  simp [timestamp, h]

theorem timestamp_end (h : samples[i]? = some p) : P.timestamp samples (2 * i + 1) = p.evT1 := by
  have hdiv : (2 * i + 1) / 2 = i := by omega
  simp [timestamp, hdiv, h]

/-- The names read back give the samples. -/
theorem map_timestamp_nameTimestamps (samples : List (PortsOf P.TS)) :
    (nameTimestamps 0 samples).map (PortsOf.mapTs (P.timestamp samples)) = samples := by
  apply List.ext_getElem?
  intro i
  rw [List.getElem?_map, nameTimestamps_getElem?]
  cases hp : samples[i]? with
  | none => rfl
  | some p => simp [PortsOf.mapTs, P.timestamp_start hp, P.timestamp_end hp]

/-- A name read among samples read through `g` is the name read among the samples, through `g`. -/
theorem timestamp_map {U : Type} (g : P.TS → U) (render : Label → List Byte) (samples : List (PortsOf P.TS)) :
    timestamp ⟨U, g P.unset, P.moduleRev, P.registry, P.textCap, P.subTypes, render⟩ (samples.map (PortsOf.mapTs g)) =
      g ∘ P.timestamp samples := by
  funext t
  simp only [timestamp, List.getElem?_map, Function.comp_apply]
  cases samples[t / 2]? with
  | none => rfl
  | some p => exact (apply_ite g _ _ _).symm

theorem powerOn_startRecorded (samples : List (PortsOf P.TS)) : (P.powerOn samples).StartRecorded :=
  .of_idle rfl rfl rfl

/-- The power-on state names the timestamps, so it does not depend on them. -/
theorem powerOn_map {U : Type} (g : P.TS → U) (render : Label → List Byte) (samples : List (PortsOf P.TS)) :
    powerOn ⟨U, g P.unset, P.moduleRev, P.registry, P.textCap, P.subTypes, render⟩ (samples.map (PortsOf.mapTs g)) =
      P.powerOn samples := by
  simp [powerOn_eq]

end Parameters

end Sys2Proof.Machine

namespace Sys2Proof.Claims

open Sys2Proof.Machine

/-- Settles O60: reading the names back is a renaming of timestamps, which commutes with the trace because the reset state has
a start time wherever a rule reads one; and it turns the named samples into the samples. -/
theorem runOverParametersIsTheRunOfTheBlock : Obligations.RunOverParametersIsTheRunOfTheBlock := by
  intro unset rev g cap sub render samples
  let P : Parameters := ⟨TS, unset, rev, g, cap, sub, render⟩
  have hblock : (P.powerOn samples).mapTs (P.timestamp samples) =
      { State.reset with cfgRev := rev, rom := g, textCap := cap, subTypes := sub, inp := samples } :=
    congrArg (fun inp => { State.reset with cfgRev := rev, rom := g, textCap := cap, subTypes := sub, inp })
      (P.map_timestamp_nameTimestamps samples)
  rw [← hblock, trace_mapTs _ _ (P.powerOn_startRecorded samples)]
  rfl

/-- Settles O59: the first part reads the power-on state; for the second, the block runs on the same names on both sides, and
only what the names are read as differs. -/
theorem parametersAreArguments : Obligations.ParametersAreArguments := by
  intro P samples
  constructor
  · simp [Parameters.powerOn_eq, FrameCleared, State.reset]
  · intro U g render
    simp only [Parameters.annotations, List.length_map, P.powerOn_map, P.timestamp_map, List.map_map, Option.map_comp_map,
      AnnotationOf.mapTs_comp]

end Sys2Proof.Claims
end

section
/-! PROOFS. Which rows a word selects, field by field: the state code a row was selected in, and the words that select no
row (rules R21, R74, R87). -/

namespace Sys2Proof

open Machine

/-- Masking a word masks each field; `W[13]` is 0 (R74). -/
theorem packWord_and (kind : BitVec 2) (st : BitVec 5) (b : Byte) (m : BitVec 16) :
    packWord kind st b &&& m = packWord (kind &&& m.extractLsb' 14 2) (st &&& wordState m) (b &&& wordByte m) := by
  apply BitVec.eq_of_getLsbD_eq
  intro i hi
  simp only [packWord, wordState, wordByte, BitVec.getLsbD_and, BitVec.getLsbD_append, BitVec.getLsbD_extractLsb']
  interval_cases i <;> simp

/-- The match and mask of a row against a word, field by field (R74). -/
theorem packWord_and_eq_iff {kind : BitVec 2} {st : BitVec 5} {b : Byte} {m p : BitVec 16} (hp : p.getLsbD 13 = false) :
    packWord kind st b &&& m = p ↔
      kind &&& m.extractLsb' 14 2 = p.extractLsb' 14 2 ∧ st &&& wordState m = wordState p ∧
        b &&& wordByte m = wordByte p := by
  rw [packWord_and, eq_packWord p hp, packWord_inj]
  simp

/-- The table: every row but RESET fixes the state code, a legal one, in its word and in its instruction's word; or it
keeps the state code presented, and asks for a legal one or for a reserved kind (R74). -/
theorem row_state (e : EventWord) :
    ∀ row ∈ rows, row.cond = .rstHigh ∨
      (wordState row.mask = BitVec.allOnes 5 ∧ wordState (encodeWord (row.build e)) = wordState row.pat ∧
        (wordState row.pat).toNat ≤ 21) ∨
      (wordState (encodeWord (row.build e)) = wordState e.w ∧
        (row.cond = .stInFrame ∨ row.mask = 0x8000 ∧ row.pat = 0x8000)) := by
  have hlow : wordState (1#1 ++ e.w.extractLsb' 0 15 : BitVec 16) = wordState e.w := by
    apply BitVec.eq_of_getLsbD_eq
    intro i hi
    simp only [wordState, BitVec.getLsbD_extractLsb', BitVec.getLsbD_append]
    interval_cases i <;> simp
  simp [rows, rowsReset, rowsIdle, rowsA, rowsB, rowsC, rowsOther, encodeWord, hlow]
  -- the state codes of the table's words and masks
  simp [wordState]

/-- Without reset, a row runs in the state code of its instruction's word, and that code is legal unless the kind is
reserved (R21, R74). -/
theorem decode_state {e : EventWord} {r : CondRegs} {i : Instr} (h : decode e r = .ok i) (hr : e.rst = false) :
    wordState (encodeWord i) = wordState e.w ∧ ((wordState e.w).toNat ≤ 21 ∨ e.w &&& 0x8000 = 0x8000) := by
  obtain ⟨row, -, hmem, hsel, rfl, -⟩ := decode_ok h
  simp only [Row.selects, Bool.and_eq_true, beq_iff_eq] at hsel
  obtain ⟨hpat, hcond⟩ := hsel
  rcases row_state e row hmem with hrst | ⟨hmask, hstate, hlegal⟩ | ⟨hstate, hframe | ⟨hmask, htop⟩⟩
  · simp [hrst, Cond.holds, hr] at hcond
  · have hw : wordState row.pat = wordState e.w := by rw [← hpat, wordState_and, hmask, BitVec.and_allOnes]
    exact ⟨hstate.trans hw, .inl (hw ▸ hlegal)⟩
  · simp only [hframe, Cond.holds, Bool.and_eq_true, decide_eq_true_eq] at hcond
    exact ⟨hstate, .inl hcond.2⟩
  · exact ⟨hstate, .inr (by rwa [hmask, htop] at hpat)⟩

/-- C.PAYLOAD is selected with `sub_pend = 0` only (R225). -/
theorem decode_cPayload {e : EventWord} {r : CondRegs} {b : Byte} {sp : Span} (h : decode e r = .ok (.cPayload b sp)) :
    r.subPend = false := by
  obtain ⟨row, -, hmem, hsel, hbuild, -⟩ := decode_ok h
  have hrow : ∀ row ∈ rows, .cPayload b sp = row.build e → row.cond = .subPend0 := by
    simp [rows, rowsReset, rowsIdle, rowsA, rowsB, rowsC, rowsOther]
  simp only [Row.selects, hrow row hmem hbuild, Cond.holds, Bool.and_eq_true, Bool.not_eq_true'] at hsel
  exact hsel.2

/-- A row that is selected makes the decoder answer an instruction. -/
theorem decode_isOk {e : EventWord} {r : CondRegs} (h : ∃ row ∈ rows, row.selects e r = true)
    (h13 : e.w.getLsbD 13 = false) : ∃ i, decode e r = .ok i := by
  obtain ⟨row, hrow⟩ := Option.isSome_iff_exists.mp (List.find?_isSome.mpr h)
  exact ⟨row.build e, by unfold decode; simp only [h13, hrow, Bool.and_false]; rfl⟩

section
variable {st : BitVec 5} (rst : Bool) (rev : ModuleRev) (b : Byte) (sp : Span) (r : CondRegs)

/-- The conditions of a state's byte rows leave out no byte and no register value (R75, R87). -/
theorem exists_byteRow (hst : st.toNat ≤ 21) :
    ∃ row ∈ rows, row.selects ⟨rst, rev, packWord kindByte st b, sp⟩ r = true := by
  have hs : st &&& 31#5 = st := BitVec.and_allOnes
  have hb : b &&& 255#8 = b := BitVec.and_allOnes
  simp [rows, rowsReset, rowsIdle, rowsA, rowsB, rowsC, rowsOther, Row.selects, packWord_and_eq_iff, Cond.holds]
  simp [wordState, wordByte, hs, hb, ← BitVec.toNat_inj]
  -- each legal code leaves its own rows, under complementary conditions
  interval_cases st.toNat <;> simp <;> tauto

/-- ABORT.IDLE and ABORT.FRAME leave out no legal state code (R157, R158). -/
theorem exists_abortRow (hst : st.toNat ≤ 21) :
    ∃ row ∈ rows, row.selects ⟨rst, rev, packWord kindAbort st 0, sp⟩ r = true := by
  have hs : st &&& 31#5 = st := BitVec.and_allOnes
  simp [rows, rowsReset, rowsIdle, rowsA, rowsB, rowsC, rowsOther, Row.selects, packWord_and_eq_iff, Cond.holds]
  simp [wordState, wordByte, hs]
  tauto

/-- RESERVED_KIND asks for the high kind bit only (R159). -/
theorem exists_reservedRow {kind : BitVec 2} (hkind : 2 ≤ kind.toNat) :
    ∃ row ∈ rows, row.selects ⟨rst, rev, packWord kind st b, sp⟩ r = true := by
  have htop : kind &&& 0b10 = 0b10 := by revert kind; decide
  refine ⟨⟨"RESERVED_KIND", 0x8000, 0x8000, .always, fun e => .reservedKind (e.w.extractLsb' 0 15) e.sp⟩, ?_, ?_⟩
  · simp [rows, rowsOther]
  · simpa [Row.selects, packWord_and_eq_iff, wordState, wordByte, Cond.holds] using htop

/-- Only one of the two event kinds in a reserved state code matches no row (R21, R87). -/
theorem exists_formWord_row {kind : BitVec 2} (h : kind.toNat < 2 → st.toNat ≤ 21) :
    ∃ row ∈ rows, row.selects ⟨rst, rev, formWord kind st b, sp⟩ r = true := by
  rcases (by decide : ∀ k : BitVec 2, k = kindByte ∨ k = kindAbort ∨ 2 ≤ k.toNat) kind with rfl | rfl | hkind
  · rw [formWord_byte]
    exact exists_byteRow rst rev b sp r (h (by decide))
  · rw [formWord_abort]
    exact exists_abortRow rst rev sp r (h (by decide))
  · exact exists_reservedRow rst rev _ sp r hkind

/-- Without reset, row selection fails exactly for one of the two event kinds in a reserved state code (R21). -/
theorem decode_formWord_error_iff {kind : BitVec 2} :
    (∃ x, decode ⟨false, rev, formWord kind st b, sp⟩ r = .error x) ↔ kind.toNat < 2 ∧ 21 < st.toNat := by
  constructor
  · rintro ⟨x, hx⟩
    by_contra hlegal
    have hrow := exists_formWord_row (kind := kind) (st := st) false rev b sp r (by omega)
    obtain ⟨i, hi⟩ := decode_isOk hrow (bit13_formWord kind st b)
    simp [hi] at hx
  · rintro ⟨hkind, hst⟩
    cases hd : decode ⟨false, rev, formWord kind st b, sp⟩ r with
    | error x => exact ⟨x, rfl⟩
    | ok i =>
      exfalso
      rcases (decode_state hd rfl).2 with hlegal | htop
      · rw [wordState_formWord] at hlegal
        omega
      · have hk : kind &&& 0b10 = 0b10 := by
          simpa [formWord, packWord_and_eq_iff, wordState, wordByte] using htop
        exact absurd hkind ((by decide : ∀ k : BitVec 2, k &&& 0b10 = 0b10 → ¬ k.toNat < 2) kind hk)

end

end Sys2Proof
end

section
/-! PROOFS. When a step faults (rules R21, R150, R258). -/

namespace Sys2Proof.Machine

/-- No rule faults: the one fault is row selection's (R258). -/
theorem exec_ne_fault (i : Instr) (s : State) (f : Fault) : exec i s ≠ .fault f := by
  intro h
  cases i
  case aPayload =>
    dsimp only [exec, execAPayload] at h
    split at h <;> cases h
  case bBody =>
    dsimp only [exec, execBBody] at h
    split at h <;> cases h
  all_goals cases h

/-- A step faults when row selection stops. -/
theorem step_fault_iff {s : State} {f : Fault} : step s = .fault f ↔ fetch s = .stop f := by
  unfold step
  cases fetch s with
  | stop g => simp
  | refuse r => simp
  | noEvent u => simp
  | run i u => simp [exec_ne_fault]

/-- A presented sample stops when it asks for a row and none is selected (R150). -/
theorem present_stop_iff {p : Ports} {s : State} {f : Fault} :
    present p s = .stop f ↔
      p.rst = false ∧ p.cfgRev = s.cfgRev ∧ p.evValid = true ∧ p.evKind.toNat < 2 ∧ 21 < s.st.toNat := by
  have herr := decode_formWord_error_iff (st := s.st) p.cfgRev p.evByte ⟨p.evT0, p.evT1⟩ s.condRegs (kind := p.evKind)
  cases f
  cases hrst : p.rst with
  | true =>
    have hd := decode_rst (eventWord p s) s.condRegs hrst
    simp [present, hrst, hd]
  | false =>
    have hword : eventWord p s = ⟨false, p.cfgRev, formWord p.evKind s.st p.evByte, ⟨p.evT0, p.evT1⟩⟩ := by
      simp [eventWord, hrst]
    rw [← herr, ← hword]
    by_cases hrev : p.cfgRev = s.cfgRev
    · cases hvalid : p.evValid with
      | false => simp [present, hrst, hrev, hvalid]
      | true => cases hd : decode (eventWord p s) s.condRegs <;> simp [present, hrst, hrev, hvalid, hd]
    · simp [present, hrst, hrev]

theorem fetch_stop_iff {s : State} {f : Fault} :
    fetch s = .stop f ↔
      s.rom.wf = true ∧ ∃ p rest, s.inp = p :: rest ∧ present p { s with inp := rest } = .stop f := by
  unfold fetch
  cases hwf : s.rom.wf with
  | false => simp
  | true => cases hinp : s.inp <;> simp

end Sys2Proof.Machine

namespace Sys2Proof.Claims

open Sys2Proof.Machine

/-- Settles O9: no rule faults, and row selection finds no row exactly for the two event kinds in a reserved state code. -/
theorem stepFaultsOnlyInReservedStates : Obligations.StepFaultsOnlyInReservedStates := by
  intro s f
  simp only [step_fault_iff, fetch_stop_iff, present_stop_iff]

end Sys2Proof.Claims
end

section
/-! PROOFS. `active_protocol` by its bounds (rule R22), and the block's invariant part by part: what holds inside a frame
of a protocol, and the payload counters of a state code (rules R21, R29, R31, R112). -/

namespace Sys2Proof.Machine

section
variable {st : BitVec 5}

theorem activeProtocol_eq_none_iff : activeProtocol st = some .none ↔ st.toNat = 0 := by
  unfold activeProtocol
  split_ifs <;> simp <;> omega

theorem activeProtocol_eq_a_iff : activeProtocol st = some .a ↔ 1 ≤ st.toNat ∧ st.toNat ≤ 8 := by
  unfold activeProtocol
  split_ifs <;> simp <;> omega

theorem activeProtocol_eq_b_iff : activeProtocol st = some .b ↔ 9 ≤ st.toNat ∧ st.toNat ≤ 13 := by
  unfold activeProtocol
  split_ifs <;> simp <;> omega

theorem activeProtocol_eq_c_iff : activeProtocol st = some .c ↔ 14 ≤ st.toNat ∧ st.toNat ≤ 21 := by
  unfold activeProtocol
  split_ifs <;> simp <;> omega

/-- A reserved code has no active protocol (R21, R22). -/
theorem legal_of_activeProtocol {p : Protocol} (h : activeProtocol st = some p) : st.toNat ≤ 21 := by
  unfold activeProtocol at h
  split_ifs at h <;> omega

end

/-- A state code of a frame of protocol `p` (R22). -/
abbrev FrameCode (p : Protocol) (code : BitVec 5) : Prop := activeProtocol code = some p ∧ code ≠ St.idle

/-- A state code of a frame of protocol `p` in which no payload byte is counted (R29). -/
abbrev HeaderCode (p : Protocol) (code : BitVec 5) : Prop := FrameCode p code ∧ code ∉ payloadStates

/-- The checksum engines outside protocol `p` are at 0 (R112). -/
def State.OtherEnginesZero (p : Protocol) (s : State) : Prop :=
  match p with
  | .none => (s.ckA = 0 ∧ s.ckB = 0) ∧ s.nx = 0 ∧ s.crc = 0
  | .a => s.nx = 0 ∧ s.crc = 0
  | .b => (s.ckA = 0 ∧ s.ckB = 0) ∧ s.crc = 0
  | .c => (s.ckA = 0 ∧ s.ckB = 0) ∧ s.nx = 0

/-- `f_buf` holds at most `TEXT_CAP` bytes (R31). -/
def State.BufFits (s : State) : Prop := ∀ n, s.textCap = some n → s.fBuf.length ≤ n

/-- The payload offset at which state code `code` is met (R21). -/
def State.OffsetFor (code : BitVec 5) (s : State) : Prop :=
  (code = St.cType1 → s.k.toNat = 0) ∧ (code = St.cType2 → s.k.toNat = 1) ∧ (code = St.cPayload → 2 ≤ s.k.toNat)

/-- The length and the payload counters as state code `code` asks for them (R21, R28, R29). -/
def State.CountedFor (code : BitVec 5) (s : State) : Prop :=
  (code ∈ payloadStates → 1 ≤ s.rem.toNat ∧ s.k.toNat + s.rem.toNat = s.plen.toNat) ∧
  s.OffsetFor code ∧
  (16 ≤ code.toNat → s.plen.toNat ≤ 1023)

theorem State.Inv.otherEnginesZero {s : State} {code : BitVec 5} (hs : s.Inv) (p : Protocol) (hst : code = s.st)
    (hp : code = St.idle ∨ activeProtocol code = some p) : s.OtherEnginesZero p := by
  subst hst
  have hne : ∀ {q : Protocol}, q ≠ .none → q ≠ p → activeProtocol s.st ≠ some q := by
    intro q hnone hq
    rcases hp with hidle | hactive
    · rw [hidle]
      exact fun h => hnone (Option.some.inj h).symm
    · rw [hactive]
      exact fun h => hq (Option.some.inj h).symm
  cases p
  case none => exact ⟨hs.engineA (hne nofun nofun), hs.engineB (hne nofun nofun), hs.engineC (hne nofun nofun)⟩
  case a => exact ⟨hs.engineB (hne nofun nofun), hs.engineC (hne nofun nofun)⟩
  case b => exact ⟨hs.engineA (hne nofun nofun), hs.engineC (hne nofun nofun)⟩
  case c => exact ⟨hs.engineA (hne nofun nofun), hs.engineB (hne nofun nofun)⟩

theorem State.Inv.countedFor {s : State} {code : BitVec 5} (hs : s.Inv) (hst : code = s.st) : s.CountedFor code := by
  subst hst
  exact ⟨hs.counters, hs.offsets, hs.lengthC⟩

/-- Entering or inside a frame of protocol `p`, with no subtype pending: what the parts of a rule before its `goto` keep. -/
def State.InFrame (p : Protocol) (s : State) : Prop := s.OtherEnginesZero p ∧ s.BufFits ∧ s.subPend = false

theorem State.Inv.inFrame {s : State} {code : BitVec 5} (hs : s.Inv) (p : Protocol) (hst : code = s.st)
    (hp : (code = St.idle ∨ activeProtocol code = some p) ∧ code ≠ St.cPayload) : s.InFrame p :=
  ⟨hs.otherEnginesZero p hst hp.1, hs.cap, Bool.eq_false_iff.mpr fun h => hp.2 (hst.trans (hs.subtype h).1)⟩

/-- The invariant inside a frame of protocol `p`, from its parts. -/
theorem State.Inv.of_frame {t : State} {code : BitVec 5} (p : Protocol) (hst : t.st = code)
    (hcode : FrameCode p code) (heng : t.OtherEnginesZero p) (hbuf : t.BufFits)
    (hstart : t.StartRecorded) (hsub : t.subPend = false ∨ code = St.cPayload) (hcount : t.CountedFor code) : t.Inv := by
  subst hst
  obtain ⟨hp, hidle⟩ := hcode
  obtain ⟨hcounters, hoffsets, hlength⟩ := hcount
  exact {
    legal := legal_of_activeProtocol hp
    idleClear := fun h => absurd h hidle
    counters := hcounters
    offsets := hoffsets
    lengthC := hlength
    start := fun h => hstart (.inl h)
    subtype := fun h => ⟨hsub.resolve_left (by simp [h]), hstart (.inr (.inl h))⟩
    build := fun h => hstart (.inr (.inr h))
    engineA := by cases p <;> simp_all [State.OtherEnginesZero]
    engineB := by cases p <;> simp_all [State.OtherEnginesZero]
    engineC := by cases p <;> simp_all [State.OtherEnginesZero]
    cap := hbuf }

/-- Outside the payload states only the length of protocol C counts. -/
theorem State.CountedFor.of_not_payload {s : State} {code : BitVec 5} (hcode : code ∉ payloadStates)
    (hlen : code.toNat < 16 ∨ s.plen.toNat ≤ 1023) : s.CountedFor code := by
  refine ⟨fun h => absurd h hcode, ⟨?_, ?_, ?_⟩, by omega⟩
  all_goals
    rintro rfl
    exact absurd (by decide) hcode

theorem State.CountedFor.of_rem {s : State} {code : BitVec 5} (hrem : s.rem ≠ 0)
    (hsum : s.k.toNat + s.rem.toNat = s.plen.toNat)
    (hoff : s.OffsetFor code) (hlen : 16 ≤ code.toNat → s.plen.toNat ≤ 1023) : s.CountedFor code :=
  ⟨fun _ => ⟨Nat.pos_of_ne_zero fun h => hrem (BitVec.eq_of_toNat_eq h), hsum⟩, hoff, hlen⟩

/-- Entering a state that counts no payload, inside a frame. -/
theorem State.Inv.goto {u : State} {code : BitVec 5} (p : Protocol) (hframe : u.InFrame p)
    (hstart : (u.goto code).StartRecorded) (hlen : code.toNat < 16 ∨ u.plen.toNat ≤ 1023)
    (hcode : HeaderCode p code) : (u.goto code).Inv := by
  obtain ⟨heng, hbuf, hsub⟩ := hframe
  exact .of_frame p rfl hcode.1 heng hbuf hstart (.inl hsub) (.of_not_payload hcode.2 hlen)

/-- `finish`, and so `resync` and reset, leave a state that meets the invariant (R37, R160, R251, R280). -/
theorem State.Inv.finish (s : State) : s.finish.Inv where
  legal := by simp
  idleClear := fun _ => rfl
  counters := by simp [payloadStates]
  offsets := by simp
  lengthC := by simp
  start := by simp [startStates]
  subtype := by simp
  build := by simp
  engineA := by simp
  engineB := by simp
  engineC := by simp
  cap := by simp

/-- The invariant says nothing of the ports. -/
theorem State.Inv.withPorts {s : State} (hs : s.Inv) (inp : List Ports) (ann : Option Annotation) :
    State.Inv { s with inp := inp, ann := ann } :=
  { hs with idleClear := fun h => congrArg (fun u : State => { u with inp := inp, ann := ann }) (hs.idleClear h) }

end Sys2Proof.Machine
end

section
/-! PROOFS. Every row's rule keeps the invariant (rules R150 to R231). -/

namespace Sys2Proof.Machine

theorem State.BufFits.append {s : State} (hs : s.BufFits) (hfull : s.bufFull = false) (b : Byte) :
    (s.append b).BufFits := by
  intro n hn
  have hlt : s.fBuf.length ≠ n := by
    rintro rfl
    simp [(bufFull_iff s).mpr hn] at hfull
  simpa using Nat.lt_of_le_of_ne (hs n hn) hlt

theorem State.BufFits.extract {b : Byte} {sp : Span} {s t : State} (hs : s.BufFits) (h : extract b sp s = .ok t) :
    t.BufFits := by
  rcases extract_cases h with ⟨-, rfl⟩ | ⟨d, e, s1, s2, -, hopen, hacc, hend⟩
  · exact hs
  · have h1 : s1.BufFits := by
      rcases openBuild_cases hopen with ⟨-, rfl⟩ | ⟨-, -, rfl⟩
      · exact fun n _ => Nat.zero_le n
      · exact hs
    have h2 : s2.BufFits := by
      rcases accumulate_cases hacc with ⟨-, rfl⟩ | ⟨-, hfull, rfl⟩ | ⟨-, rfl⟩
      · exact h1
      · exact h1.append hfull b
      · exact h1
    rcases hend with ⟨-, rfl⟩ | ⟨-, rfl⟩
    · rw [complete_eq]
      exact h2
    · exact h2

/-- Counting a payload byte keeps `k + rem = plen` without a wrap (R29). -/
theorem State.CountedFor.countPayload {s : State} {code : BitVec 5} (hs : s.CountedFor code)
    (hcode : code ∈ payloadStates) :
    s.countPayload.k.toNat = s.k.toNat + 1 ∧
      s.countPayload.k.toNat + s.countPayload.rem.toNat = s.countPayload.plen.toNat := by
  obtain ⟨hrem, hsum⟩ := hs.1 hcode
  simp
  bv_omega

/-- A payload state that counts a byte and stays, up to the last one (R176, R224, R225). -/
theorem State.Inv.countPayload {u t : State} {code done : BitVec 5} (p : Protocol)
    (ht : (if u.countPayload.rem = 0 then u.countPayload.goto done else u.countPayload) = t) (hstart : t.StartRecorded)
    (hst : code = u.st) (hcount : u.CountedFor code) (hframe : u.InFrame p)
    (hcode : (code = St.aPayload ∨ code = St.cPayload) ∧ FrameCode p code)
    (hlen : done.toNat < 16 ∨ 16 ≤ code.toNat)
    (hdone : HeaderCode p done) : t.Inv := by
  obtain ⟨hpayload, hcode⟩ := hcode
  obtain ⟨hk, hsum⟩ := hcount.countPayload (by rcases hpayload with rfl | rfl <;> decide)
  obtain ⟨-, ⟨-, -, hoff⟩, hmax⟩ := hcount
  split at ht <;> subst ht
  · exact .goto p hframe hstart (hlen.imp_right hmax) hdone
  · rename_i hrem
    obtain ⟨heng, hbuf, hsub⟩ := hframe
    refine .of_frame p hst.symm hcode heng hbuf hstart (.inl hsub)
      (.of_rem hrem hsum ⟨?_, ?_, fun h => hk ▸ (hoff h).trans (Nat.le_succ _)⟩ hmax)
    all_goals
      rintro rfl
      exact absurd hpayload (by decide)

/-- Protocol C lengths have 10 bits (R28, R221). -/
theorem lenC_le (lenb b : Byte) : (Operands.lenC lenb b).toNat ≤ 1023 := by
  have h : (Operands.lenC lenb b).toNat < 2 ^ 10 := by
    unfold Operands.lenC
    rw [BitVec.toNat_or]
    apply Nat.or_lt_two_pow
    · simp
      omega
    · simp
      omega
  omega

/-- A length enters the payload at offset 0, or skips it when it is 0 (R175, R221). -/
theorem State.Inv.beginPayload {u t : State} {l : Label} {ta te : TS} {n : BitVec 16} {code done : BitVec 5} (p : Protocol)
    (ht : ((u.beginPayload n).emit l ta te).goto (if n = 0 then done else code) = t) (hstart : t.StartRecorded)
    (hframe : u.InFrame p) (hlen : code.toNat < 16 ∧ done.toNat < 16 ∨ n.toNat ≤ 1023)
    (hcode : FrameCode p code ∧ code ≠ St.cType2 ∧ code ≠ St.cPayload)
    (hdone : HeaderCode p done) : t.Inv := by
  split at ht <;> subst ht
  · exact .goto p hframe hstart (hlen.imp_left And.right) hdone
  · rename_i hn
    obtain ⟨heng, hbuf, hsub⟩ := hframe
    obtain ⟨hcode, htype2, hpayload⟩ := hcode
    exact .of_frame p (code := code) rfl hcode heng hbuf hstart (.inl hsub)
      (.of_rem hn (Nat.zero_add _) ⟨fun _ => rfl, fun h => absurd h htype2, fun h => absurd h hpayload⟩
        fun h => hlen.resolve_left (by omega))

theorem State.Inv.execAPayload {b : Byte} {sp : Span} {s t : State} (hs : s.Inv) (hst : St.aPayload = s.st)
    (h : execAPayload b sp s = .next t) (hstart : t.StartRecorded) : t.Inv := by
  unfold Machine.execAPayload at h
  split at h
  · cases h
  · rename_i u hx
    have hbuf : u.BufFits := State.BufFits.extract (s := s.quiet.foldFletcher b) hs.cap hx
    obtain ⟨heng, -, hsub⟩ := hs.inFrame .a hst (by decide)
    rw [extract_frame hx] at hbuf h
    exact .countPayload .a (Host.Outcome.next.inj h) hstart hst (hs.countedFor hst) ⟨heng, hbuf, hsub⟩ (by decide)
      (.inl (by decide)) (by decide)

theorem State.Inv.execBBody {b : Byte} {s t : State} (hs : s.Inv) (hst : St.bBody = s.st)
    (h : execBBody b s = .next t) (hstart : t.StartRecorded) : t.Inv := by
  obtain ⟨heng, hbuf, hsub⟩ := hs.inFrame .b hst (by decide)
  dsimp only [Machine.execBBody] at h
  split at h
  · cases h
  · rename_i hfull
    cases h
    have hbuf : ((s.quiet.foldXor b).append b).BufFits :=
      State.BufFits.append (s := s.quiet.foldXor b) hbuf (Bool.eq_false_iff.mpr hfull) b
    exact .of_frame .b hst.symm (by decide) heng hbuf hstart (.inl hsub)
      (.of_not_payload (by decide) (.inl (by decide)))

theorem State.Inv.execCType1 {b : Byte} {sp : Span} {s t : State} (hs : s.Inv) (hst : St.cType1 = s.st)
    (h : execCType1 b sp s = .next t) (hstart : t.StartRecorded) : t.Inv := by
  have hframe := hs.inFrame .c hst (by decide)
  have hcount := hs.countedFor hst
  obtain ⟨hk, hsum⟩ := hcount.countPayload (by decide)
  obtain ⟨-, ⟨hoff, -⟩, hmax⟩ := hcount
  have ht := Host.Outcome.next.inj h
  split at ht <;> subst ht
  · exact .goto .c hframe hstart (.inr (hmax (by decide))) (by decide)
  · rename_i hrem
    obtain ⟨heng, hbuf, hsub⟩ := hframe
    have hone : s.countPayload.k.toNat = 1 := by rw [hk, hoff rfl]
    exact .of_frame .c (code := St.cType2) rfl (by decide) heng hbuf hstart (.inl hsub)
      (.of_rem hrem hsum ⟨nofun, fun _ => hone, nofun⟩ fun _ => hmax (by decide))

theorem State.Inv.execCType2 {b : Byte} {sp : Span} {s t : State} (hs : s.Inv) (hst : St.cType2 = s.st)
    (h : execCType2 b sp s = .next t) (hstart : t.StartRecorded) : t.Inv := by
  obtain ⟨heng, hbuf, hsub⟩ := hs.inFrame .c hst (by decide)
  have hcount := hs.countedFor hst
  obtain ⟨hk, hsum⟩ := hcount.countPayload (by decide)
  obtain ⟨-, ⟨-, hoff, -⟩, hmax⟩ := hcount
  rw [execCType2_eq] at h
  cases h
  by_cases hrem : s.rem - 1 = 0
  · have hno : typeHasSubtype b s = false := by
      simp only [typeHasSubtype, hrem]
      simp
    exact .of_frame .c (code := St.cCrc1) (if_pos hrem) (by decide) heng hbuf hstart
      (.inl (by simp [hno, hsub])) (.of_not_payload (by decide) (.inr (hmax (by decide))))
  · have htwo : s.countPayload.k.toNat = 2 := by rw [hk, hoff rfl]
    exact .of_frame .c (code := St.cPayload) (if_neg hrem) (by decide) heng hbuf hstart (.inr rfl)
      (.of_rem hrem hsum ⟨nofun, nofun, fun _ => htwo.ge⟩ fun _ => hmax (by decide))

/-- Every row keeps the invariant in its own state code: it clears the frame, leaves all but the ports, enters another state of
the frame, or begins or counts the payload (R29, R37, R150). -/
theorem State.Inv.exec {i : Instr} {s t : State} (hs : s.Inv) (hst : resetOf i = none → wordState (encodeWord i) = s.st)
    (hpend : ∀ b sp, i = .cPayload b sp → s.subPend = false) (h : exec i s = .next t) : t.Inv := by
  have hstart := hs.startRecorded.exec h
  cases i
  case reset rev =>
    cases h
    exact .finish { s with cfgRev := rev, ann := none }
  case aSync2Bad | aCkaBad | aCkbOk | aCkbBad | bCk1Bad | bCk2Bad | bCrBad | bLfOk | bLfBad | cCrc1Bad | cCrc2Bad
      | cCrc3Ok | cCrc3Bad | abortFrame =>
    cases h
    exact .finish _
  case idleNoise | abortIdle =>
    cases h
    exact hs.withPorts s.inp none
  case reservedKind => cases h
  all_goals
    replace hst := hst rfl
    simp only [encodeWord, wordState_packWord] at hst
  case idlePreambleA | aSync2Ok | aClass | aId | aLen1 | aCkaOk =>
    cases h
    exact .goto .a (hs.inFrame .a hst (by decide)) hstart (.inl (by decide)) (by decide)
  case aLen2 =>
    exact .beginPayload .a (Host.Outcome.next.inj h) hstart (hs.inFrame .a hst (by decide)) (.inl (by decide)) (by decide)
      (by decide)
  case aPayload => exact hs.execAPayload hst h hstart
  case idleDelimB =>
    cases h
    obtain ⟨heng, -, hsub⟩ := hs.inFrame .b hst (by decide)
    exact .goto .b ⟨heng, fun n _ => Nat.zero_le n, hsub⟩ hstart (.inl (by decide)) (by decide)
  case bEndDelim | bCk1Ok | bCk2Ok | bCrOk =>
    cases h
    exact .goto .b (hs.inFrame .b hst (by decide)) hstart (.inl (by decide)) (by decide)
  case bBody => exact hs.execBBody hst h hstart
  case idlePreambleC | cLen1 =>
    cases h
    exact .goto .c (hs.inFrame .c hst (by decide)) hstart (.inl (by decide)) (by decide)
  case cLen2 b sp =>
    exact .beginPayload .c (Host.Outcome.next.inj h) hstart (hs.inFrame .c hst (by decide)) (.inr (lenC_le s.lenb b))
      (by decide) (by decide)
  case cType1 => exact hs.execCType1 hst h hstart
  case cType2 => exact hs.execCType2 hst h hstart
  case cSubtype =>
    exact .countPayload .c (Host.Outcome.next.inj h) hstart hst (hs.countedFor hst)
      ⟨hs.otherEnginesZero .c hst (by decide), hs.cap, rfl⟩ (by decide) (.inr (by decide)) (by decide)
  case cPayload b sp =>
    exact .countPayload .c (Host.Outcome.next.inj h) hstart hst (hs.countedFor hst)
      ⟨hs.otherEnginesZero .c hst (by decide), hs.cap, hpend b sp rfl⟩ (by decide) (.inr (by decide)) (by decide)
  case cCrc1Ok | cCrc2Ok =>
    cases h
    exact .goto .c (hs.inFrame .c hst (by decide)) hstart (.inr (hs.lengthC (hst ▸ by decide))) (by decide)

end Sys2Proof.Machine
end

section
/-! PROOFS. The invariant of the block at reset and over the step, and the registers and protocols of the state codes
(rules R22, R38, R150). -/

namespace Sys2Proof.Machine

/-- A row that runs is RESET's or runs in its own state code (R74, R150). -/
theorem fetch_run_state {s u : State} {i : Instr} (h : fetch s = .run i u) (hi : resetOf i = none) :
    wordState (encodeWord i) = u.st := by
  obtain ⟨p, rest, -, -, -, -, hd⟩ := fetch_run h
  have hrst : p.rst = false := by
    refine Bool.eq_false_iff.mpr fun hrst => ?_
    rw [decode_rst (eventWord p u) u.condRegs hrst] at hd
    cases hd
    cases hi
  exact (decode_state hd hrst).1.trans (wordState_formWord _ _ _)

theorem State.Inv.step {s t : State} (hs : s.Inv) (h : step s = .next t) : t.Inv := by
  rcases step_cases h with ⟨u, hf, rfl⟩ | ⟨i, u, hf, hx⟩
  · rcases fetch_noEvent hf with ⟨-, rfl⟩ | ⟨p, rest, -, -, -, -, rfl⟩
    · exact hs.withPorts u.inp none
    · exact hs.withPorts rest none
  · have hst := fetch_run_state hf
    obtain ⟨p, rest, -, -, rfl, -, hd⟩ := fetch_run hf
    exact (hs.withPorts rest s.ann).exec hst (fun b sp hi => decode_cPayload (hi ▸ hd)) hx

end Sys2Proof.Machine

namespace Sys2Proof.Claims

open Sys2Proof.Machine

/-- Settles O56: a step without an event changes only the ports; any other runs one row's rule, in that row's state code. -/
theorem everyStepKeepsTheInvariant : Obligations.EveryStepKeepsTheInvariant := by
  intro s t hs h
  exact hs.step h

/-- Settles O55: the reset state is what `finish` leaves of itself. -/
theorem invariantHoldsAtReset : Obligations.InvariantHoldsAtReset := State.Inv.finish State.reset

/-- Settles O11: the registers one by one, and the three reads of the ROM with the ACK entries. -/
theorem resetStateRegisters : Obligations.ResetStateRegisters := by
  refine ⟨?_, rfl, rfl, rfl, ?_, ?_, ?_⟩
  · simp [FrameCleared, State.reset]
  all_goals decide

/-- Settles O24: the bounds of each protocol's state codes, which hold of every code. -/
theorem activeProtocolOfTheState : Obligations.ActiveProtocolOfTheState := by
  intro st _
  exact ⟨activeProtocol_eq_none_iff, activeProtocol_eq_a_iff, activeProtocol_eq_b_iff, activeProtocol_eq_c_iff⟩

end Sys2Proof.Claims
end

section
/-! PROOFS. Renaming timestamps and the step under the block's invariant (rules R62, R286), and what no step writes: the ROM
and the parameters (rules R50, R63). -/

namespace Sys2Proof.Machine

/-- The fields that no rule writes: the ROM, the two parameters of log entry 4, and the input queue, which the step itself
shortens (R50, R63). -/
def State.unwritten (s : State) : Registry × Option Nat × List (BitVec 12) × List Ports :=
  (s.rom, s.textCap, s.subTypes, s.inp)

/-- A branch between two states that agree on the unwritten fields. -/
theorem State.unwritten_ite {c : Prop} [Decidable c] {s t u : State} (ht : t.unwritten = s.unwritten)
    (hu : u.unwritten = s.unwritten) : (if c then t else u).unwritten = s.unwritten := by
  split <;> assumption

theorem execAPayload_unwritten {b : Byte} {sp : Span} {s t : State} (h : execAPayload b sp s = .next t) :
    t.unwritten = s.unwritten := by
  unfold execAPayload at h
  split at h
  · cases h
  · rename_i u hx
    have hu : u.unwritten = s.unwritten := by rw [extract_frame hx]; rfl
    cases h
    exact State.unwritten_ite hu hu

/-- Every row's rule leaves the ROM, the parameters and the inputs still to come (R50). -/
theorem exec_unwritten {i : Instr} {s t : State} (h : exec i s = .next t) : t.unwritten = s.unwritten := by
  cases i
  case aPayload => exact execAPayload_unwritten h
  case bBody =>
    dsimp only [exec, execBBody] at h
    split at h
    · cases h
    · cases h
      rfl
  case cType1 | cSubtype | cPayload =>
    cases h
    exact State.unwritten_ite rfl rfl
  case cType2 b sp =>
    rw [exec, execCType2_eq] at h
    cases h
    rfl
  case reservedKind => cases h
  -- every other row leaves one state, an update of `s` that names none of these fields
  all_goals
    cases h
    rfl

/-- A step takes the head of the input queue, if there is one, and leaves the ROM and the parameters (R50, R63, R150). -/
theorem step_unwritten {s t : State} (h : step s = .next t) : t.unwritten = (s.rom, s.textCap, s.subTypes, s.inp.tail) := by
  rcases step_cases h with ⟨u, hf, rfl⟩ | ⟨i, u, hf, hx⟩
  · rcases fetch_noEvent hf with ⟨hinp, rfl⟩ | ⟨p, rest, hinp, -, -, -, rfl⟩
    · simp [State.unwritten, hinp]
    · simp [State.unwritten, hinp]
  · obtain ⟨p, rest, -, hinp, rfl, -⟩ := fetch_run hf
    rw [exec_unwritten hx, hinp]
    rfl

end Sys2Proof.Machine

namespace Sys2Proof.Claims

open Sys2Proof.Machine

/-- Settles O57: the invariant records a start time wherever a rule reads one, and there renaming commutes with row selection
and with every row's rule. -/
theorem timestampsArePassedThrough : Obligations.TimestampsArePassedThrough := by
  intro f s hs
  exact step_mapTs f hs.startRecorded

/-- Settles O16: no rule writes these fields, and the step takes one sample before a rule runs. -/
theorem noStepWritesTheRom : Obligations.NoStepWritesTheRom := by
  intro s t h
  simpa [State.unwritten] using step_unwritten h

end Sys2Proof.Claims
end

section
/-! PROOFS. `WF` check by check, in numbers, and the refusal of a ROM that fails it (rules R55, R258). -/

namespace Sys2Proof

namespace FieldDescriptor

variable (d : FieldDescriptor)

theorem wfRange_iff : d.wfRange = true ↔ ∀ e, d.stop = .fixed e → d.lo.toNat ≤ e.toNat := by
  cases hstop : d.stop <;> simp [wfRange, hstop]

/-- The width of an integer field lies in `1..INT_MAX_BYTES`; written over the integers, the lower bound is `wf_range`'s. -/
theorem wfIntWidth_iff : d.wfIntWidth = true ↔
    (d.kind = .u ∨ d.kind = .s → ∃ e, d.stop = .fixed e ∧ 1 ≤ (e.toNat : Int) - d.lo.toNat + 1 ∧
      (e.toNat : Int) - d.lo.toNat + 1 ≤ 8) := by
  cases hkind : d.kind
  case u | s =>
    cases hstop : d.stop
    case toEnd | fromCapture => simp [wfIntWidth, hkind, hstop]
    case fixed e =>
      have hwidth : d.lo.toNat ≤ e.toNat ∧ e.toNat - d.lo.toNat + 1 ≤ 8 ↔
          1 ≤ (e.toNat : Int) - d.lo.toNat + 1 ∧ (e.toNat : Int) - d.lo.toNat + 1 ≤ 8 := by omega
      simpa [wfIntWidth, hkind, hstop, Config.intMaxBytes] using hwidth
  case text | array | region => simp [wfIntWidth, hkind]

theorem wfCapture_iff : d.wfCapture = true ↔
    (d.capture = true → d.kind = .u ∧ ∃ e, d.stop = .fixed e ∧ (e.toNat : Int) - d.lo.toNat + 1 ≤ 2) := by
  have hwidth (e : BitVec 16) : e.toNat + 1 ≤ d.lo.toNat + 2 ↔ (e.toNat : Int) - d.lo.toNat + 1 ≤ 2 := by omega
  cases hcapture : d.capture with
  | false => simp [wfCapture, hcapture]
  | true => cases hstop : d.stop <;> simp [wfCapture, hcapture, hstop, hwidth]

theorem wfDyn_iff : d.wfDyn = true ↔
    (d.stop = .fromCapture → d.kind = .text ∨ d.kind = .array ∨ d.kind = .region) := by
  cases hstop : d.stop
  case fixed | toEnd => simp [wfDyn, hstop]
  case fromCapture => cases hkind : d.kind <;> simp [wfDyn, hstop, hkind]

/-- The six checks of one descriptor, in the order of R55. -/
theorem wf_iff : d.wf = true ↔
    (∀ e, d.stop = .fixed e → d.lo.toNat ≤ e.toNat) ∧
    (d.kind = .u ∨ d.kind = .s → ∃ e, d.stop = .fixed e ∧ 1 ≤ (e.toNat : Int) - d.lo.toNat + 1 ∧
      (e.toNat : Int) - d.lo.toNat + 1 ≤ 8) ∧
    (d.capture = true → d.kind = .u ∧ ∃ e, d.stop = .fixed e ∧ (e.toNat : Int) - d.lo.toNat + 1 ≤ 2) ∧
    (d.stop = .fromCapture → d.kind = .text ∨ d.kind = .array ∨ d.kind = .region) ∧
    d.lmin.toNat ≤ d.lmax.toNat ∧ d.name ≠ "" := by
  simp only [wf, Bool.and_eq_true, wfRange_iff, wfIntWidth_iff, wfCapture_iff, wfDyn_iff, wfGuard, wfName,
    decide_eq_true_eq, bne_iff_ne, and_assoc]

end FieldDescriptor

theorem Registry.wf_eq_true_iff (g : Registry) : g.wf = true ↔
    (∀ e ∈ g.ct, e.name ≠ "") ∧ (∀ e ∈ g.it, e.name ≠ "") ∧ ∀ p ∈ g.pt, ∀ d ∈ p.plan, d.wf = true := by
  simp only [Registry.wf, Bool.and_eq_true, List.all_eq_true, bne_iff_ne, and_assoc]

/-- The check stands before the input queue, so it does not matter what is presented (R55; log entry 16). -/
theorem Machine.step_of_rom_ill_formed {s : Machine.State} (h : s.rom.wf = false) :
    Machine.step s = .refused .romIllFormed := by
  simp [Machine.step, Machine.fetch, h]

end Sys2Proof

namespace Sys2Proof.Claims

open Sys2Proof.Machine

/-- Settles O13: `WF` entry by entry and check by check, and the step asks for it first. -/
theorem illFormedRomIsRefused : Obligations.IllFormedRomIsRefused := by
  refine ⟨fun g => ?_, fun s h => step_of_rom_ill_formed h⟩
  simp only [Registry.wf_eq_true_iff, FieldDescriptor.wf_iff]

end Sys2Proof.Claims
end

section
/-! PROOFS. The read ports of the ROM answer the first matching entry (rules R51, R52, R53, R57). -/

namespace Sys2Proof

/-- A read of a table: a field of the first entry that matches, with no match before it. -/
theorem map_find?_eq_some_iff {α β : Type} {p : α → Bool} {f : α → β} {l : List α} {v : β} :
    (l.find? p).map f = some v ↔ ∃ pre x post, l = pre ++ x :: post ∧ p x = true ∧ f x = v ∧ ∀ y ∈ pre, ¬ p y = true := by
  simp only [Option.map_eq_some_iff, List.find?_eq_some_iff_append, Bool.not_eq_true, Bool.not_eq_true']
  constructor
  · rintro ⟨x, ⟨hx, pre, post, hl, hpre⟩, hv⟩
    exact ⟨pre, x, post, hl, hx, hv, hpre⟩
  · rintro ⟨pre, x, post, hl, hx, hv, hpre⟩
    exact ⟨x, ⟨hx, pre, post, hl, hpre⟩, hv⟩

namespace Registry

variable (g : Registry) (c i : Byte) (n : String)

theorem romClass_eq_some_iff : g.romClass c = some n ↔
    ∃ pre x post, g.ct = pre ++ x :: post ∧ x.cls = c ∧ x.name = n ∧ ∀ y ∈ pre, y.cls ≠ c := by
  simp only [romClass, map_find?_eq_some_iff, beq_iff_eq, ne_eq]

theorem romClass_eq_none_iff : g.romClass c = none ↔ ∀ y ∈ g.ct, y.cls ≠ c := by
  simp only [romClass, Option.map_eq_none_iff, List.find?_eq_none, beq_iff_eq, ne_eq]

theorem romId_eq_some_iff : g.romId c i = some n ↔
    ∃ pre x post, g.it = pre ++ x :: post ∧ x.cls = c ∧ x.mid = i ∧ x.name = n ∧ ∀ y ∈ pre, ¬ (y.cls = c ∧ y.mid = i) := by
  simp only [romId, map_find?_eq_some_iff, Bool.and_eq_true, beq_iff_eq, and_assoc]

theorem romId_eq_none_iff : g.romId c i = none ↔ ∀ y ∈ g.it, ¬ (y.cls = c ∧ y.mid = i) := by
  simp only [romId, Option.map_eq_none_iff, List.find?_eq_none, Bool.and_eq_true, beq_iff_eq]

theorem romPlan_of_first {pre post : List PlanEntry} {x : PlanEntry} (hpt : g.pt = pre ++ x :: post) (hcls : x.cls = c)
    (hmid : x.mid = i) (hpre : ∀ y ∈ pre, ¬ (y.cls = c ∧ y.mid = i)) : g.romPlan c i = x.plan := by
  have hfind : g.pt.find? (fun e => e.cls == c && e.mid == i) = some x :=
    List.find?_eq_some_iff_append.mpr ⟨by simp [hcls, hmid], pre, post, hpt, by simpa [imp_iff_not_or] using hpre⟩
  simp [romPlan, hfind]

theorem romPlan_of_absent (h : ∀ y ∈ g.pt, ¬ (y.cls = c ∧ y.mid = i)) : g.romPlan c i = [] := by
  have hfind : g.pt.find? (fun e => e.cls == c && e.mid == i) = none := List.find?_eq_none.mpr (by simpa using h)
  simp [romPlan, hfind]

theorem romClassByName_eq_some_iff : g.romClassByName n = some c ↔
    ∃ pre x post, g.ct = pre ++ x :: post ∧ x.name = n ∧ x.cls = c ∧ ∀ y ∈ pre, y.name ≠ n := by
  simp only [romClassByName, map_find?_eq_some_iff, beq_iff_eq, ne_eq]

theorem romClassByName_eq_none_iff : g.romClassByName n = none ↔ ∀ y ∈ g.ct, y.name ≠ n := by
  simp only [romClassByName, Option.map_eq_none_iff, List.find?_eq_none, beq_iff_eq, ne_eq]

theorem romIdByName_eq_some_iff : g.romIdByName n = some (c, i) ↔
    ∃ pre x post, g.it = pre ++ x :: post ∧ x.name = n ∧ x.cls = c ∧ x.mid = i ∧ ∀ y ∈ pre, y.name ≠ n := by
  simp only [romIdByName, map_find?_eq_some_iff, beq_iff_eq, Prod.mk.injEq, ne_eq, and_assoc]

theorem romIdByName_eq_none_iff : g.romIdByName n = none ↔ ∀ y ∈ g.it, y.name ≠ n := by
  simp only [romIdByName, Option.map_eq_none_iff, List.find?_eq_none, beq_iff_eq, ne_eq]

end Registry

end Sys2Proof

namespace Sys2Proof.Claims

/-- Settles O14: the class and id tables by their first match or its absence, the plan table by both cases. -/
theorem romReadsAnswerTheFirstMatch : Obligations.RomReadsAnswerTheFirstMatch :=
  ⟨fun g c => ⟨g.romClass_eq_some_iff c, g.romClass_eq_none_iff c⟩,
    fun g c i => ⟨g.romId_eq_some_iff c i, g.romId_eq_none_iff c i⟩,
    fun g c i => ⟨fun _ _ _ => g.romPlan_of_first c i, g.romPlan_of_absent c i⟩⟩

/-- Settles O15: the same two tables searched by name. -/
theorem reverseReadsAnswerTheFirstMatch : Obligations.ReverseReadsAnswerTheFirstMatch := fun g n =>
  ⟨fun c => g.romClassByName_eq_some_iff c n, g.romClassByName_eq_none_iff n,
    fun c i => g.romIdByName_eq_some_iff c i n, g.romIdByName_eq_none_iff n⟩

end Sys2Proof.Claims
end

section
/-! PROOFS. What the rows of the table ask of an event without reset: the word, the span and the condition of the instruction
that they build (rules R74, R75). -/

namespace Sys2Proof

open Claims

/-- The event `e`, without reset, carries instruction `i` under the condition registers `r`: its word, its span and its row's
condition (R74). -/
structure Carries (e : EventWord) (r : CondRegs) (i : Instr) : Prop where
  wellFormed : i.WellFormed
  word : encodeWord i = e.w
  span : spanOf i = e.sp
  noReset : resetOf i = none
  cond : RowCondition i r

/-- The layout of the word in numbers (R74). -/
theorem toNat_packWord (kind : BitVec 2) (st : BitVec 5) (b : Byte) :
    (packWord kind st b).toNat = kind.toNat * 2 ^ 14 + st.toNat * 2 ^ 8 + b.toNat := by
  simp only [packWord, BitVec.toNat_append]
  rw [← Nat.shiftLeft_add_eq_or_of_lt b.isLt, ← Nat.shiftLeft_add_eq_or_of_lt st.isLt,
    ← Nat.shiftLeft_add_eq_or_of_lt (by decide)]
  simp only [Nat.shiftLeft_eq, BitVec.toNat_ofNat]
  omega

theorem wellFormed_abortFrame_iff {code : BitVec 5} {sp : Span} :
    (Instr.abortFrame code sp).WellFormed ↔ code ≠ St.idle ∧ code.toNat ≤ 21 := by
  simp only [Instr.WellFormed, Instr.check]
  split_ifs with hidle hreserved
  · simp [hidle]
  · simp [hreserved]
  · exact iff_of_true rfl ⟨hidle, Nat.le_of_not_lt hreserved⟩

/-- `W[13] = 0` in every instruction's word (R74). -/
theorem bit13_encodeWord {i : Instr} (h : i.WellFormed) : (encodeWord i).getLsbD 13 = false := by
  cases i
  case reset => simp [encodeWord]
  case reservedKind low sp =>
    have hlow : low.getLsbD 13 = false := by simpa [Instr.WellFormed, Instr.check] using h
    rw [encodeWord, BitVec.getLsbD_append]
    simpa using hlow
  all_goals exact bit13_packWord _ _ _

/-- The words with bit 15 set. -/
theorem eq_top_append_iff (w : BitVec 16) : w = 1#1 ++ w.extractLsb' 0 15 ↔ w.getLsbD 15 = true := by
  constructor
  · intro h
    rw [h, BitVec.getLsbD_append]
    rfl
  · intro h
    apply BitVec.eq_of_getLsbD_eq
    intro i hi
    rw [BitVec.getLsbD_append, BitVec.getLsbD_extractLsb']
    rcases Nat.lt_succ_iff_lt_or_eq.mp hi with hlow | rfl
    · simp [hlow]
    · simpa using h

/-- The words of a reserved kind are those with the high kind bit (R159). -/
theorem packWord_eq_top_append_iff {kind : BitVec 2} {st : BitVec 5} {b : Byte} :
    packWord kind st b = 1#1 ++ (packWord kind st b).extractLsb' 0 15 ↔ kind &&& 2#2 = 2#2 := by
  have h15 : (packWord kind st b).getLsbD 15 = kind.getLsbD 1 := by
    simp only [packWord, BitVec.getLsbD_append]
    rfl
  rw [eq_top_append_iff, h15]
  exact (by decide : ∀ k : BitVec 2, k.getLsbD 1 = true ↔ k &&& 2#2 = 2#2) kind

/-- A row's match and mask ask for the word of the instruction that the row builds (R74). -/
theorem row_word_iff {e : EventWord} (h13 : e.w.getLsbD 13 = false) :
    ∀ row ∈ rows.tail, e.w &&& row.mask = row.pat ↔ e.w = encodeWord (row.build e) := by
  obtain ⟨rst, rev, w, sp⟩ := e
  dsimp only at h13
  obtain ⟨kind, st, b, rfl⟩ : ∃ kind st b, w = packWord kind st b := ⟨_, _, _, eq_packWord w h13⟩
  have hk : kind &&& 3#2 = kind := BitVec.and_allOnes
  have hs : st &&& 31#5 = st := BitVec.and_allOnes
  have hb : b &&& 255#8 = b := BitVec.and_allOnes
  simp [rows, rowsReset, rowsIdle, rowsA, rowsB, rowsC, rowsOther, packWord_and_eq_iff, encodeWord, packWord_inj,
    packWord_eq_top_append_iff]
  -- the fields of the table's words and masks
  simp [wordState, wordByte, hk, hs, hb]

/-- A row's condition asks that the instruction it builds is well formed and that the registers meet its condition (R74). -/
theorem row_cond_iff {e : EventWord} (r : CondRegs) (h13 : e.w.getLsbD 13 = false) :
    ∀ row ∈ rows.tail, row.cond.holds false (wordState e.w) (wordByte e.w) r = true ↔
      (row.build e).WellFormed ∧ RowCondition (row.build e) r := by
  simp [rows, rowsReset, rowsIdle, rowsA, rowsB, rowsC, rowsOther, Cond.holds, RowCondition, wellFormed_abortFrame_iff]
  simp [Instr.WellFormed, Instr.check, Operands.nmeaChar1, Operands.nmeaChar2, Operands.hiNibble, Operands.loNibble,
    Operands.crcByte1, Operands.crcByte2, Operands.crcByte3, and_assoc]
  -- RESERVED_KIND asks for `W[13] = 0`
  simpa using h13

theorem row_span_and_reset (e : EventWord) :
    ∀ row ∈ rows.tail, spanOf (row.build e) = e.sp ∧ resetOf (row.build e) = none := by
  simp [rows, rowsReset, rowsIdle, rowsA, rowsB, rowsC, rowsOther, spanOf, resetOf]

/-- A row besides RESET's is selected exactly by the events that carry the instruction it builds. -/
theorem row_selects_iff {e : EventWord} {r : CondRegs} {row : Row} (hrst : e.rst = false) (h13 : e.w.getLsbD 13 = false)
    (hrow : row ∈ rows.tail) : row.selects e r = true ↔ Carries e r (row.build e) := by
  obtain ⟨hspan, hreset⟩ := row_span_and_reset e row hrow
  rw [Row.selects, Bool.and_eq_true, beq_iff_eq, hrst, row_word_iff h13 row hrow, row_cond_iff r h13 row hrow]
  exact ⟨fun ⟨hword, hwf, hcond⟩ => ⟨hwf, hword.symm, hspan, hreset, hcond⟩,
    fun h => ⟨h.word.symm, h.wellFormed, h.cond⟩⟩

/-- Every instruction but RESET has its row. -/
theorem exists_row_build {e : EventWord} {r : CondRegs} {i : Instr} (h : Carries e r i) :
    ∃ row ∈ rows.tail, row.build e = i := by
  obtain ⟨rst, rev, w, sp⟩ := e
  obtain ⟨-, hword, hspan, hreset, -⟩ := h
  dsimp only at hword hspan
  subst hword hspan
  cases i
  case reset => cases hreset
  all_goals
    simp only [rows, rowsReset, rowsIdle, rowsA, rowsB, rowsC, rowsOther, List.cons_append, List.nil_append, List.tail_cons,
      List.exists_mem_cons_iff, reduceCtorEq, false_or, true_or, encodeWord, wordByte_packWord, wordState_packWord, spanOf,
      BitVec.extractLsb'_append_eq_right]

end Sys2Proof
end

section
/-! PROOFS. No two rows besides RESET's are selected together, so the decoder reads from an event without reset exactly the
instruction that it carries (rules R74, R87). -/

namespace Sys2Proof

open Claims

/-- The second condition is the complement of the first. -/
def Cond.negates : Cond → Cond → Bool
  | .eqCkA, .neCkA | .eqCkB, .neCkB | .eqNmea1, .neNmea1 | .eqNmea2, .neNmea2 => true
  | .eqCrc1, .neCrc1 | .eqCrc2, .neCrc2 | .eqCrc3, .neCrc3 | .subPend1, .subPend0 => true
  | _, _ => false

theorem Cond.holds_of_negates {c d : Cond} (h : c.negates d = true) (rst : Bool) (st : BitVec 5) (b : Byte) (r : CondRegs) :
    d.holds rst st b r = !c.holds rst st b r := by
  unfold Cond.negates at h
  split at h
  case h_9 => cases h
  all_goals rfl

/-- The condition leaves out the word `w` whatever the registers hold. -/
def Cond.shutsOut (w : BitVec 16) : Cond → Bool
  | .notPreamble => wordByte w == Config.syncA1 || wordByte w == Config.delimBStart || wordByte w == Config.preambleC
  | .byteNe v => wordByte w == v
  | .stInFrame => wordState w == St.idle
  | _ => false

theorem Cond.holds_of_shutsOut {c : Cond} {w : BitVec 16} (h : c.shutsOut w = true) (rst : Bool) (r : CondRegs) :
    c.holds rst (wordState w) (wordByte w) r = false := by
  unfold Cond.shutsOut at h
  split at h
  case h_1 => rcases (by simpa [or_assoc] using h) with hb | hb | hb <;> simp [Cond.holds, hb]
  case h_4 => cases h
  all_goals simp_all [Cond.holds]

/-- Two rows that differ in a bit both fix, that have complementary conditions, or of which the first fixes the whole word and
the second's condition leaves that word out. -/
def Row.apart (x y : Row) : Bool :=
  x.pat &&& y.mask != y.pat &&& x.mask || x.cond.negates y.cond || (x.mask == 0xFFFF && y.cond.shutsOut x.pat)

theorem Row.not_both_select {x y : Row} (h : x.apart y = true) (e : EventWord) (r : CondRegs) :
    ¬ (x.selects e r = true ∧ y.selects e r = true) := by
  simp only [Row.selects, Bool.and_eq_true, beq_iff_eq]
  rintro ⟨⟨hxpat, hxcond⟩, hypat, hycond⟩
  simp only [Row.apart, Bool.or_eq_true, bne_iff_ne, Bool.and_eq_true, beq_iff_eq] at h
  rcases h with (hbits | hneg) | ⟨hmask, hout⟩
  · refine hbits ?_
    rw [← hxpat, ← hypat, BitVec.and_assoc, BitVec.and_assoc, BitVec.and_comm x.mask]
  · simp [Cond.holds_of_negates hneg, hxcond] at hycond
  · have hw : e.w = x.pat := by
      rw [← hxpat, hmask]
      exact BitVec.and_allOnes.symm
    rw [hw, Cond.holds_of_shutsOut hout] at hycond
    cases hycond

/-- The table, pair by pair. -/
theorem rows_pairwise_apart : rows.tail.Pairwise (fun x y => x.apart y = true) := by decide

theorem filter_eq_singleton {α : Type} {p : α → Bool} {l : List α} {a : α}
    (hl : l.Pairwise fun x y => ¬ (p x = true ∧ p y = true)) (ha : a ∈ l) (hp : p a = true) : l.filter p = [a] := by
  have hmem : a ∈ l.filter p := List.mem_filter.mpr ⟨ha, hp⟩
  have hsel : ∀ x ∈ l.filter p, p x = true := fun x hx => (List.mem_filter.mp hx).2
  have hpair := hl.filter p
  match l.filter p, hmem, hsel, hpair with
  | [x], hmem, _, _ => rw [List.mem_singleton.mp hmem]
  | x :: y :: _, _, hsel, hpair =>
    exact absurd ⟨hsel x (by simp), hsel y (by simp)⟩ (List.rel_of_pairwise_cons hpair (by simp))

/-- A selected row is the only one besides RESET's (R87). -/
theorem selectedRows_eq {e : EventWord} {r : CondRegs} {row : Row} (hrow : row ∈ rows.tail) (hsel : row.selects e r = true) :
    rows.tail.filter (fun row => row.selects e r) = [row] :=
  filter_eq_singleton (rows_pairwise_apart.imp fun h => Row.not_both_select h e r) hrow hsel

/-- Without reset, RESET's row is not selected (R150). -/
theorem mem_tail_of_selects {e : EventWord} {r : CondRegs} {row : Row} (hrst : e.rst = false) (hrow : row ∈ rows)
    (hsel : row.selects e r = true) : row ∈ rows.tail := by
  rcases List.mem_cons.mp (show row ∈ _ :: rows.tail from hrow) with rfl | htail
  · simp [Row.selects, Cond.holds, hrst] at hsel
  · exact htail

/-- Without reset, the decoder reads exactly the instruction that the event carries (R74). -/
theorem decode_eq_ok_iff {e : EventWord} {r : CondRegs} {i : Instr} (hrst : e.rst = false) :
    decode e r = .ok i ↔ Carries e r i := by
  constructor
  · intro h
    obtain ⟨row, -, hrow, hsel, rfl, h13⟩ := decode_ok h
    exact (row_selects_iff hrst (h13 hrst) (mem_tail_of_selects hrst hrow hsel)).mp hsel
  · intro h
    have h13 : e.w.getLsbD 13 = false := h.word ▸ bit13_encodeWord h.wellFormed
    obtain ⟨row, hrow, rfl⟩ := exists_row_build h
    have hsel := (row_selects_iff hrst h13 hrow).mpr h
    obtain ⟨j, hj⟩ := decode_isOk ⟨row, List.mem_of_mem_tail hrow, hsel⟩ h13
    obtain ⟨row', -, hrow', hsel', rfl, -⟩ := decode_ok hj
    have hone : row' ∈ rows.tail.filter (fun row => row.selects e r) :=
      List.mem_filter.mpr ⟨mem_tail_of_selects hrst hrow' hsel', hsel'⟩
    rw [selectedRows_eq hrow hsel, List.mem_singleton] at hone
    rw [hj, hone]

theorem decode_encode {i : Instr} {r : CondRegs} (hwf : i.WellFormed) (hcond : RowCondition i r) :
    decode (encode i) r = .ok i := by
  cases hreset : resetOf i with
  | none => exact (decode_eq_ok_iff (by simp [encode, hreset])).mpr ⟨hwf, rfl, rfl, hreset, hcond⟩
  | some rev =>
    cases i
    case reset => exact decode_rst _ r rfl
    all_goals cases hreset

end Sys2Proof

namespace Sys2Proof.Claims

/-- Settles O3: the event that the encoder answers carries the instruction, or has `rst = 1` for RESET. -/
theorem decodingAnEncodingGivesItBack : Obligations.DecodingAnEncodingGivesItBack := fun _ _ hwf hcond =>
  decode_encode hwf hcond

/-- Settles O4: an event without reset carries what the decoder reads from it. -/
theorem encodingADecodedWordGivesItBack : Obligations.EncodingADecodedWordGivesItBack := by
  intro e r i hrst h
  obtain ⟨hwf, hword, hspan, hreset, hcond⟩ := (decode_eq_ok_iff hrst).mp h
  exact ⟨hwf, hword, hspan, hreset, hcond⟩

/-- Settles O2: some row is selected, and no two rows are selected together. -/
theorem exactlyOneRowPerByte : Obligations.ExactlyOneRowPerByte := by
  intro rev sp st b r hst
  obtain ⟨row, hrow, hsel⟩ := exists_byteRow false rev b sp r hst
  rw [formWord_byte, selectedRows_eq (mem_tail_of_selects rfl hrow hsel) hsel]
  rfl

section
variable {st : BitVec 5} {b : Byte} {rev : ModuleRev} {sp : Span} {r : CondRegs} {i j : Instr}

theorem byteRow_eq (h : Carries ⟨false, rev, formWord kindByte st b, sp⟩ r i) : byteRow st b rev sp r = .ok i :=
  (decode_eq_ok_iff rfl).mpr h

/-- A state with two rows, chosen by `c` (R75). -/
theorem byteRow_ite {c : Prop} [Decidable c] (hi : c → Carries ⟨false, rev, formWord kindByte st b, sp⟩ r i)
    (hj : ¬ c → Carries ⟨false, rev, formWord kindByte st b, sp⟩ r j) :
    byteRow st b rev sp r = .ok (if c then i else j) := by
  split
  · exact byteRow_eq (hi ‹_›)
  · exact byteRow_eq (hj ‹_›)

theorem byteRow_idle : byteRow St.idle b rev sp r = .ok (if b = 0xB5 then .idlePreambleA sp else if b = 0x24 then .idleDelimB sp
    else if b = 0xD3 then .idlePreambleC sp else .idleNoise b sp) := by
  split_ifs with hA hB hC
  · exact byteRow_eq ⟨rfl, hA ▸ rfl, rfl, rfl, trivial⟩
  · exact byteRow_eq ⟨rfl, hB ▸ rfl, rfl, rfl, trivial⟩
  · exact byteRow_eq ⟨rfl, hC ▸ rfl, rfl, rfl, trivial⟩
  · exact byteRow_eq ⟨if_neg (not_or.mpr ⟨hA, not_or.mpr ⟨hB, hC⟩⟩), rfl, rfl, rfl, trivial⟩

end

/-- Settles O1: each instruction under its row's condition is carried by the event in its state. -/
theorem everyStateSelectsItsRows : Obligations.EveryStateSelectsItsRows := by
  intro rev sp b r
  refine ⟨byteRow_idle, ?sync2, ?body, ?cr, ?lf, ?ckA, ?ckB, ?ck1, ?ck2, ?crc1, ?crc2, ?crc3, ?payload, ?_, ?_, ?_, ?_, ?_, ?_, ?_,
    ?_, ?_, ?abortIdle, ?abortFrame⟩
  case sync2 | body | cr | lf =>
    exact byteRow_ite (fun h => ⟨rfl, h ▸ rfl, rfl, rfl, trivial⟩) (fun h => ⟨if_neg h, rfl, rfl, rfl, trivial⟩)
  case ckA | ckB | ck1 | ck2 | crc1 | crc2 | crc3 =>
    exact byteRow_ite (⟨rfl, rfl, rfl, rfl, ·⟩) (⟨rfl, rfl, rfl, rfl, ·⟩)
  case payload =>
    exact byteRow_ite (⟨rfl, rfl, rfl, rfl, ·⟩) (⟨rfl, rfl, rfl, rfl, Bool.eq_false_iff.mpr ·⟩)
  case abortIdle => exact (decode_eq_ok_iff rfl).mpr ⟨rfl, rfl, rfl, rfl, trivial⟩
  case abortFrame =>
    intro code hidle hlegal
    exact (decode_eq_ok_iff rfl).mpr ⟨wellFormed_abortFrame_iff.mpr ⟨hidle, hlegal⟩, rfl, rfl, rfl, trivial⟩
  all_goals exact byteRow_eq ⟨rfl, rfl, rfl, rfl, trivial⟩

/-- Settles O5: the fields of the word in numbers, the byte field 0 for `ABORT`. -/
theorem decodeWordLayout : Obligations.DecodeWordLayout := by
  intro kind st b
  rw [formWord, toNat_packWord]
  split <;> rfl

/-- Settles O6: the words are the encodings of their instructions. -/
theorem tableWordsDecode : Obligations.TableWordsDecode := by
  intro sp
  refine ⟨?_, ?_, ?_, ?_, ?_, decode_rst _ _ rfl⟩
  · exact decode_encode (i := .idlePreambleA sp) rfl trivial
  · exact decode_encode (i := .aClass 5 sp) rfl trivial
  · exact decode_encode (i := .bEndDelim sp) rfl trivial
  · exact decode_encode (i := .cPayload 0x7F sp) rfl rfl
  · exact decode_encode (i := .abortFrame 9 sp) rfl trivial

end Sys2Proof.Claims
end

section
/-! PROOFS. The additive engine over a string in closed form (rules R101, R113). -/

namespace Sys2Proof.Checksum

/-- Each byte times the number of folds of the second sum it stands in (R101). -/
def weightedSum (bs : List Byte) : Nat := (bs.zipIdx.map (fun x => (bs.length - x.2) * x.1.toNat)).sum

/-- One more fold counts every earlier byte once more. -/
theorem weightedSum_concat (bs : List Byte) (b : Byte) :
    weightedSum (bs ++ [b]) = weightedSum bs + (bs.map (·.toNat)).sum + b.toNat := by
  have hweights : bs.zipIdx.map (fun x => (bs.length + 1 - x.2) * x.1.toNat) =
      bs.zipIdx.map (fun x => (bs.length - x.2) * x.1.toNat + x.1.toNat) := by
    refine List.map_congr_left fun x hx => ?_
    have hlt : x.2 < bs.length := List.snd_lt_of_mem_zipIdx hx
    rw [Nat.sub_add_comm hlt.le, Nat.succ_mul]
  have hbytes : bs.zipIdx.map (fun x => x.1.toNat) = bs.map (·.toNat) := by
    conv_rhs => rw [← List.zipIdx_map_fst 0 bs, List.map_map]
    rfl
  simp [weightedSum, List.zipIdx_append, hweights, List.sum_map_add, hbytes]

/-- Both sums at once: the second takes up the first after every byte (R101). -/
theorem toNat_fletcher (bs : List Byte) :
    (fletcher bs).1.toNat = (bs.map (·.toNat)).sum % 256 ∧ (fletcher bs).2.toNat = weightedSum bs % 256 := by
  induction bs using List.reverseRecOn with
  | nil => exact ⟨rfl, rfl⟩
  | append_singleton bs b ih =>
    obtain ⟨hplain, hweighted⟩ := ih
    simp [fletcher_concat, fletcherFold, weightedSum_concat, BitVec.toNat_add, hplain, hweighted, Nat.add_assoc]

end Sys2Proof.Checksum

namespace Sys2Proof.Claims

/-- Settles O50: by induction on the string's end, with the second sum weighing each byte by the folds it stands in. -/
theorem fletcherOfAStringInClosedForm : Obligations.FletcherOfAStringInClosedForm := Checksum.toNat_fletcher

end Sys2Proof.Claims
end

section
/-! PROOFS. `FoldCrc` as eight rounds, in numbers and over XOR (rule R109). -/

namespace Sys2Proof.Checksum

theorem xor_xor_xor_comm {w : Nat} (a b c d : BitVec w) : a ^^^ b ^^^ (c ^^^ d) = a ^^^ c ^^^ (b ^^^ d) := by
  ac_rfl

/-- Bit 24 after the shift is the top bit of the register. -/
theorem getLsbD_shifted (c : BitVec 24) : (c.zeroExtend 25 <<< 1).getLsbD 24 = c.msb := by
  simp [BitVec.msb_eq_getLsbD_last]

/-- The 25 bits hold the doubled register whole. -/
theorem toNat_shifted (c : BitVec 24) : (c.zeroExtend 25 <<< 1).toNat = 2 * c.toNat := by
  rw [BitVec.toNat_shiftLeft, BitVec.toNat_setWidth, Nat.shiftLeft_eq]
  omega

/-- A round in numbers (R109). -/
theorem toNat_crcRound (c : BitVec 24) : (crcRound c).toNat =
    (if 2 ^ 24 ≤ 2 * c.toNat then Nat.xor (2 * c.toNat) 0x1864CFB else 2 * c.toNat) % 2 ^ 24 := by
  have hmsb : c.msb = true ↔ 2 ^ 24 ≤ 2 * c.toNat := by
    rw [BitVec.msb_eq_decide, decide_eq_true_iff]
    omega
  simp only [crcRound, getLsbD_shifted, hmsb]
  split
  · rw [BitVec.truncate, BitVec.toNat_setWidth, BitVec.toNat_xor, toNat_shifted]; rfl
  · rw [BitVec.truncate, BitVec.toNat_setWidth, toNat_shifted]

/-- A round on 24 bits: the polynomial's bit 24 is masked away (R109). -/
theorem crcRound_eq (c : BitVec 24) : crcRound c = c <<< 1 ^^^ if c.msb then 0x864CFB else 0 := by
  have hshift : (c.zeroExtend 25 <<< 1).truncate 24 = c <<< 1 := BitVec.eq_of_toNat_eq (by simp)
  simp only [crcRound, getLsbD_shifted]
  split
  · exact (BitVec.setWidth_xor ..).trans (congrArg (· ^^^ _) hshift)
  · exact hshift.trans BitVec.xor_zero.symm

theorem crcRound_xor (c d : BitVec 24) : crcRound (c ^^^ d) = crcRound c ^^^ crcRound d := by
  have hpoly (x y : Bool) (p : BitVec 24) :
      (if x ^^ y then p else 0) = (if x then p else 0) ^^^ (if y then p else 0) := by
    cases x <;> cases y <;> simp
  simp only [crcRound_eq, BitVec.shiftLeft_xor_distrib, BitVec.msb_xor, hpoly, xor_xor_xor_comm (c <<< 1)]

theorem crcRounds_xor (n : Nat) (c d : BitVec 24) : crcRounds n (c ^^^ d) = crcRounds n c ^^^ crcRounds n d := by
  induction n generalizing c d with
  | zero => rfl
  | succ n ih => rw [crcRounds, crcRound_xor, ih, crcRounds, crcRounds]

theorem crcFold_xor (c d : BitVec 24) (a b : Byte) : crcFold (c ^^^ d) (a ^^^ b) = crcFold c a ^^^ crcFold d b := by
  have hbyte : (a ^^^ b).zeroExtend 24 <<< 16 = (a.zeroExtend 24 <<< 16) ^^^ (b.zeroExtend 24 <<< 16) := by
    rw [BitVec.zeroExtend, BitVec.setWidth_xor, BitVec.shiftLeft_xor_distrib]
  rw [crcFold, crcFold, crcFold, ← crcRounds_xor, hbyte, xor_xor_xor_comm]

theorem crcRounds_eq_iterate (n : Nat) (c : BitVec 24) : crcRounds n c = crcRound^[n] c := by
  induction n generalizing c with
  | zero => rfl
  | succ n ih => exact ih (crcRound c)

/-- The XOR with the byte that a fold begins with, in numbers. -/
theorem xor_byte_eq_ofNat (c : BitVec 24) (b : Byte) :
    c ^^^ (b.zeroExtend 24 <<< 16) = BitVec.ofNat 24 (Nat.xor c.toNat (b.toNat * 2 ^ 16)) := by
  have hbyte : (b.zeroExtend 24 <<< 16).toNat = b.toNat * 2 ^ 16 := by
    rw [BitVec.toNat_shiftLeft, BitVec.toNat_setWidth, Nat.shiftLeft_eq]
    omega
  rw [← hbyte]
  exact ((BitVec.ofNat_toNat 24 _).trans (BitVec.setWidth_eq _)).symm

end Sys2Proof.Checksum

namespace Sys2Proof.Claims

/-- Settles O53: both the start of a fold and each of its rounds are linear. -/
theorem crcFoldIsLinear : Obligations.CrcFoldIsLinear := Checksum.crcFold_xor

/-- Settles O52: a round in numbers, and the rounds as iterates of one. -/
theorem foldCrcIsEightRounds : Obligations.FoldCrcIsEightRounds := by
  refine ⟨Checksum.toNat_crcRound, fun c b s => ⟨?_, rfl⟩⟩
  rw [Checksum.crcFold, Checksum.xor_byte_eq_ofNat, Checksum.crcRounds_eq_iterate]

end Sys2Proof.Claims
end

section
/-! PROOFS. The engines' operations on the registers, and `HexChar` (rules R100 to R108). -/

namespace Sys2Proof.Operands

section
variable (n : BitVec 4) (nx : Byte)

theorem toNat_hexChar_of_lt (h : n.toNat < 10) : (hexChar n).toNat = 0x30 + n.toNat := by
  rw [hexChar, if_pos h]
  bv_omega

theorem toNat_hexChar_of_le (h : 10 ≤ n.toNat) : (hexChar n).toNat = 0x30 + n.toNat + 7 := by
  rw [hexChar, if_neg (Nat.not_lt.mpr h)]
  bv_omega

theorem hiNibble_eq_ofNat : hiNibble nx = BitVec.ofNat 4 (nx.toNat / 16) := by
  apply BitVec.eq_of_toNat_eq
  simp [hiNibble, Nat.shiftRight_eq_div_pow]

theorem loNibble_eq_ofNat : loNibble nx = BitVec.ofNat 4 (nx.toNat % 16) := by
  apply BitVec.eq_of_toNat_eq
  simp [loNibble]

end

end Sys2Proof.Operands

namespace Sys2Proof.Machine

theorem State.foldXor_foldXor (b : Byte) (s : State) : (s.foldXor b).foldXor b = s := by
  simp [foldXor, Checksum.xorFold]

end Sys2Proof.Machine

namespace Sys2Proof.Claims

open Sys2Proof.Machine

theorem fletcherFolded_foldFletcher (b : Byte) (s : State) : FletcherFolded b s (s.foldFletcher b) := by
  simp [FletcherFolded, State.foldFletcher, Checksum.fletcherFold, BitVec.toNat_add]

/-- Settles O49: each operation's own update, the additive fold read in numbers. -/
theorem engineOperationsOnRegisters : Obligations.EngineOperationsOnRegisters := fun s b =>
  ⟨rfl, ⟨fletcherFolded_foldFletcher b s, rfl⟩, rfl, ⟨BitVec.toNat_xor .., rfl, s.foldXor_foldXor b⟩, rfl⟩

/-- Settles O51: the nibbles in numbers, `HexChar` on either side of 10, and its 16 characters one by one. -/
theorem hexCharGivesUppercaseHexDigits : Obligations.HexCharGivesUppercaseHexDigits := by
  have hdigit : ∀ n, Operands.hexChar n ∈ "0123456789ABCDEF".toList.map (fun c => BitVec.ofNat 8 c.toNat) := by decide
  exact ⟨fun nx => ⟨congrArg _ (Operands.hiNibble_eq_ofNat nx), congrArg _ (Operands.loNibble_eq_ofNat nx)⟩,
    fun n => ⟨Operands.toNat_hexChar_of_lt n, Operands.toNat_hexChar_of_le n, hdigit n⟩⟩

end Sys2Proof.Claims
end

section
/-! PROOFS. Little-endian assembly and two's-complement conversion, in numbers (rules R58, R127, R132). -/

namespace Sys2Proof.Operands

/-- Inserting a byte above the `j` bytes there are adds it with weight `256 ^ j` (R127). -/
theorem toNat_insertByte {v : BitVec 64} {j : Nat} (hv : v.toNat < 256 ^ j) (hj : j < 8) (b : Byte) :
    (insertByte v j b).toNat = v.toNat + 256 ^ j * b.toNat := by
  have hpow : 256 ^ j = 2 ^ (8 * j) := pow_mul 2 8 j ▸ rfl
  rw [hpow] at hv ⊢
  have hbyte : (b.zeroExtend 64 <<< (8 * j)).toNat = 2 ^ (8 * j) * b.toNat := by
    have hfits : b.toNat < 2 ^ (64 - 8 * j) :=
      b.isLt.trans_le (Nat.pow_le_pow_right Nat.two_pos (by omega))
    rw [BitVec.toNat_shiftLeft, BitVec.toNat_setWidth, Nat.shiftLeft_eq, Nat.mod_eq_of_lt (b.isLt.trans (by decide)),
      mul_comm]
    refine Nat.mod_eq_of_lt ?_
    calc 2 ^ (8 * j) * b.toNat < 2 ^ (8 * j) * 2 ^ (64 - 8 * j) := by gcongr
      _ = 2 ^ 64 := by rw [← pow_add]; congr 1; omega
  rw [insertByte, BitVec.toNat_or, hbyte, Nat.or_comm, ← Nat.two_pow_add_eq_or_of_lt hv, Nat.add_comm]

/-- The bytes so far are the value so far: inserting one more at the next offset is one more digit (R58, R127). -/
theorem toNat_foldl_insertByte (bs : List Byte) (h : bs.length ≤ 8) :
    (bs.zipIdx.foldl (fun v x => insertByte v x.2 x.1) 0).toNat = Nat.ofDigits 256 (bs.map (·.toNat)) := by
  induction bs using List.reverseRecOn with
  | nil => rfl
  | append_singleton bs b ih =>
    rw [List.length_append, List.length_singleton] at h
    have hval := ih (by omega)
    have hlt : Nat.ofDigits 256 (bs.map (·.toNat)) < 256 ^ bs.length := by
      have hdigits : ∀ x ∈ bs.map (·.toNat), x < 256 := by
        simpa using fun (c : Byte) _ => c.isLt
      simpa using Nat.ofDigits_lt_base_pow_length (by decide) hdigits
    rw [List.zipIdx_append, List.foldl_append, List.map_append, Nat.ofDigits_append, List.length_map, ← hval]
    simpa using toNat_insertByte (hval ▸ hlt) (by omega) b

/-- `Signed(v, w)` is the signed reading of `v` in `8w` bits (R132). -/
theorem signed_eq_toInt {v w : Nat} (hw : 1 ≤ w) (hv : v < 2 ^ (8 * w)) : signed v w = (BitVec.ofNat (8 * w) v).toInt := by
  have hhalf : 2 ^ (8 * w) = 2 * 2 ^ (8 * w - 1) := by rw [← pow_succ']; congr 1; omega
  rw [signed, BitVec.toInt_eq_toNat_cond, BitVec.toNat_ofNat, Nat.mod_eq_of_lt hv]
  split
  · rw [if_neg (by omega)]; norm_cast
  · rw [if_pos (by omega)]

end Sys2Proof.Operands

namespace Sys2Proof.Claims

/-- Settles O35: by induction on the string's end, each insertion is one more base-256 digit. -/
theorem integerBytesAreLittleEndian : Obligations.IntegerBytesAreLittleEndian := Operands.toNat_foldl_insertByte

/-- Settles O36: the two sides of half the range by definition, and the signed reading of the word. -/
theorem signedIsTwosComplement : Obligations.SignedIsTwosComplement := fun _ _ hw hv =>
  ⟨fun h => if_pos h, fun h => if_neg (Nat.not_le.mpr h), Operands.signed_eq_toInt hw hv⟩

end Sys2Proof.Claims
end

section
/-! PROOFS. Field selection: the guards and ends of a descriptor in numbers, and first match (rules R121 to R123). -/

namespace Sys2Proof.Machine

open Claims

section
variable (d : FieldDescriptor) (s : State)

theorem lengthGuard_iff : lengthGuard d s = true ↔ d.lmin.toNat ≤ s.plen.toNat ∧ s.plen.toNat ≤ d.lmax.toNat := by
  simp [lengthGuard]

theorem revGuard_iff : revGuard d s = true ↔
    d.rev = .any ∨ (d.rev = .rev0 ∧ s.cfgRev = .rev0) ∨ (d.rev = .rev1 ∧ s.cfgRev = .rev1) := by
  cases hrev : d.rev <;> simp [revGuard, hrev]

/-- `covers` answers the end of an applicable descriptor (R121, R122). -/
theorem covers_eq_some_iff_applicable (e : Nat) : covers d s = some e ↔ Applicable d s e := by
  rw [covers_eq_some_iff, lengthGuard_iff, revGuard_iff, Applicable, and_assoc]
  refine and_congr_left fun _ => ?_
  cases hstop : d.stop with
  | fixed x => simp [endOf, hstop, eq_comm]
  | toEnd =>
    simp [endOf, hstop]
    omega
  | fromCapture =>
    simp [endOf, hstop, and_assoc]
    intros
    omega

theorem covers_eq_none_iff : covers d s = none ↔ ∀ e, ¬ Applicable d s e := by
  simp [Option.eq_none_iff_forall_ne_some, covers_eq_some_iff_applicable]

end

/-- The first applicable descriptor, with its end (R123). -/
theorem selectField_eq_some_iff {s : State} {d : FieldDescriptor} {e : Nat} : selectField s = some (d, e) ↔
    ∃ pre post, s.rom.romPlan s.cls s.mid = pre ++ d :: post ∧ Applicable d s e ∧
      ∀ x ∈ pre, ∀ e', ¬ Applicable x s e' := by
  simp only [selectField, firstApplicable, List.findSome?_eq_some_iff, Option.map_eq_some_iff, Option.map_eq_none_iff,
    covers_eq_some_iff_applicable, covers_eq_none_iff, Prod.mk.injEq]
  constructor
  · rintro ⟨pre, x, post, hplan, ⟨e', happ, rfl, rfl⟩, hpre⟩
    exact ⟨pre, post, hplan, happ, hpre⟩
  · rintro ⟨pre, post, hplan, happ, hpre⟩
    exact ⟨pre, d, post, hplan, ⟨e, happ, rfl, rfl⟩, hpre⟩

theorem selectField_eq_none_iff {s : State} :
    selectField s = none ↔ ∀ d ∈ s.rom.romPlan s.cls s.mid, ∀ e, ¬ Applicable d s e := by
  simp only [selectField, firstApplicable, List.findSome?_eq_none_iff, Option.map_eq_none_iff, covers_eq_none_iff]

end Sys2Proof.Machine

namespace Sys2Proof.Claims

open Sys2Proof.Machine

/-- Settles O34: first match over the plan, with `covers` read as applicability in numbers. -/
theorem firstApplicableDescriptorIsSelected : Obligations.FirstApplicableDescriptorIsSelected := fun _ =>
  ⟨fun _ _ => selectField_eq_some_iff, selectField_eq_none_iff⟩

end Sys2Proof.Claims
end

section
/-! PROOFS. The payload byte: what A.PAYLOAD answers and when it stops, on a byte that no descriptor takes and on one that a
descriptor takes (rules R124 to R134, R176). -/

namespace Sys2Proof.Machine

open Claims

section
variable {d : FieldDescriptor} {e : Nat} {b : Byte} {sp : Span} {s t : State}

theorem continues_iff : continues d e s = true ↔ buildIs d e s := by
  simp [continues, buildIs, and_assoc]

theorem opened_of_first (h : s.k = d.lo) : opened d e sp s = startBuild d e sp s := if_pos h

theorem opened_of_not_first (h : s.k ≠ d.lo) : opened d e sp s = s := if_neg h

theorem opened_frame : opened d e sp s = { s with
    fVal := (opened d e sp s).fVal, fT0 := (opened d e sp s).fT0, fLo := (opened d e sp s).fLo,
    fHi := (opened d e sp s).fHi, fValid := (opened d e sp s).fValid, fBuf := (opened d e sp s).fBuf,
    fCnt := (opened d e sp s).fCnt } := by
  unfold opened
  split <;> rfl

@[simp] theorem opened_k : (opened d e sp s).k = s.k := by rw [opened_frame]
@[simp] theorem opened_dynLen : (opened d e sp s).dynLen = s.dynLen := by rw [opened_frame]
@[simp] theorem opened_dynValid : (opened d e sp s).dynValid = s.dynValid := by rw [opened_frame]
@[simp] theorem opened_textCap : (opened d e sp s).textCap = s.textCap := by rw [opened_frame]

/-- A build opens at the descriptor's first byte, or when it is in progress (R125, R126). -/
theorem openBuild_eq_ok_iff : openBuild d e sp s = .ok t ↔ (s.k = d.lo ∨ buildIs d e s) ∧ t = opened d e sp s := by
  unfold openBuild
  rw [← continues_iff]
  by_cases hlo : s.k = d.lo
  · rw [if_pos hlo, opened_of_first hlo]
    simp [hlo, eq_comm (a := t)]
  · by_cases hc : continues d e s = true <;> simp [hlo, hc, opened_of_not_first hlo, eq_comm]

theorem openBuild_eq_error_iff {r : Refusal} :
    openBuild d e sp s = .error r ↔ r = .planMidEntry ∧ s.k ≠ d.lo ∧ ¬ buildIs d e s := by
  unfold openBuild
  rw [← continues_iff]
  by_cases hlo : s.k = d.lo
  · simp [hlo]
  · by_cases hc : continues d e s = true <;> simp [hlo, hc, eq_comm]

/-- Accumulating stops for a gathered byte that finds the buffer full (R128). -/
theorem accumulate_eq_error_iff {r : Refusal} :
    accumulate d b s = .error r ↔ r = .textOverflow ∧ gathersBytes d ∧ s.textCap = some s.fBuf.length := by
  have hbytes : accumulateBytes b s = .error r ↔ r = .textOverflow ∧ s.textCap = some s.fBuf.length := by
    unfold accumulateBytes
    rw [← bufFull_iff]
    cases s.bufFull <;> simp [eq_comm]
  unfold accumulate gathersBytes
  cases d.kind <;> simp [hbytes]

/-- The registers an accumulated byte writes, by the descriptor's kind (R127 to R129). -/
def Accumulated (d : FieldDescriptor) (b : Byte) (s t : State) : Prop :=
  (d.kind = .u ∨ d.kind = .s →
    t.fVal = Operands.insertByte s.fVal (s.k.toNat - d.lo.toNat) b ∧ t.fBuf = s.fBuf ∧ t.fCnt = s.fCnt) ∧
  (gathersBytes d → t.fVal = s.fVal ∧ t.fBuf = s.fBuf ++ [b] ∧ t.fCnt = s.fCnt + 1) ∧
  (d.kind = .region → t.fVal = s.fVal ∧ t.fBuf = s.fBuf ∧ t.fCnt = s.fCnt + 1)

theorem accumulated_of_accumulate (h : accumulate d b s = .ok t) : Accumulated d b s t := by
  unfold Accumulated gathersBytes
  rcases accumulate_cases h with ⟨hkind | hkind, rfl⟩ | ⟨hkind | hkind, -, rfl⟩ | ⟨hkind, rfl⟩ <;>
    simp [hkind, State.append]

/-- The registers of a build and of a capture that accumulating a byte does not write. -/
theorem accumulate_keeps (h : accumulate d b s = .ok t) :
    t.k = s.k ∧ t.fT0 = s.fT0 ∧ t.fLo = s.fLo ∧ t.fHi = s.fHi ∧ t.fValid = s.fValid ∧ t.dynLen = s.dynLen ∧
      t.dynValid = s.dynValid ∧ t.ann = s.ann := by
  rcases accumulate_cases h with ⟨-, rfl⟩ | ⟨-, -, rfl⟩ | ⟨-, rfl⟩ <;> simp [State.append]

/-- The extractor refuses what opening the build or accumulating refuses (R133). -/
theorem extract_eq_error_iff {r : Refusal} : extract b sp s = .error r ↔
    ∃ d e, selectField s = some (d, e) ∧ (openBuild d e sp s = .error r ∨
      ∃ t, openBuild d e sp s = .ok t ∧ accumulate d b t = .error r) := by
  unfold extract
  cases hsel : selectField s with
  | none => simp
  | some x =>
    obtain ⟨d, e⟩ := x
    cases hopen : openBuild d e sp s with
    | error r' => simp [hopen]
    | ok t => cases hacc : accumulate d b t <;> simp [hopen, hacc]

end

/-- What A.PAYLOAD does after the extractor: the counters, and the next state after the last byte (R176). -/
def State.payloadCounted (s : State) : State :=
  { s with st := if s.rem = 1 then St.aCka else s.st, k := s.k + 1, rem := s.rem - 1 }

section
variable {d : FieldDescriptor} {e : Nat} {b : Byte} {sp : Span} {s t : State}

theorem countPayload_goto_eq : (if s.countPayload.rem = 0 then s.countPayload.goto St.aCka else s.countPayload) =
    s.payloadCounted := by
  have hlast : s.rem - 1 = 0 ↔ s.rem = 1 := sub_eq_zero
  simp only [State.countPayload_rem, hlast, State.payloadCounted]
  split <;> rfl

/-- A.PAYLOAD answers what the extractor answers on the folded state, counted (R176). -/
theorem exec_aPayload_eq_next_iff : exec (.aPayload b sp) s = .next t ↔
    ∃ u, extract b sp (s.quiet.foldFletcher b) = .ok u ∧ t = u.payloadCounted := by
  change execAPayload b sp s = _ ↔ _
  unfold execAPayload
  cases extract b sp (s.quiet.foldFletcher b) <;> simp only [countPayload_goto_eq, reduceCtorEq, Host.Outcome.next.injEq,
    Except.ok.injEq, exists_eq_left', false_and, exists_false, eq_comm (a := t)]

theorem exec_aPayload_eq_refused_iff {r : Refusal} :
    exec (.aPayload b sp) s = .refused r ↔ extract b sp (s.quiet.foldFletcher b) = .error r := by
  change execAPayload b sp s = _ ↔ _
  unfold execAPayload
  cases extract b sp (s.quiet.foldFletcher b) <;> simp

/-- Folding the sums does not touch what opening a build reads or writes. -/
theorem opened_quiet_foldFletcher :
    opened d e sp (s.quiet.foldFletcher b) = (opened d e sp s).quiet.foldFletcher b := by
  unfold opened
  change (if s.k = d.lo then _ else _) = _
  split <;> rfl

/-- When A.PAYLOAD refuses: what the two rules of the selected descriptor refuse, and nothing else (R126, R128). -/
theorem exec_aPayload_refused_iff {r : Refusal} : exec (.aPayload b sp) s = .refused r ↔
    ∃ d e, selectField s = some (d, e) ∧
      (r = .planMidEntry ∧ s.k ≠ d.lo ∧ ¬ buildIs d e s ∨
        r = .textOverflow ∧ (s.k = d.lo ∨ buildIs d e s) ∧ gathersBytes d ∧
          s.textCap = some (opened d e sp s).fBuf.length) := by
  rw [exec_aPayload_eq_refused_iff, extract_eq_error_iff]
  refine exists_congr fun d => exists_congr fun e => and_congr Iff.rfl (or_congr openBuild_eq_error_iff ?_)
  simp only [openBuild_eq_ok_iff, accumulate_eq_error_iff, opened_quiet_foldFletcher]
  constructor
  · rintro ⟨t, ⟨hopen, rfl⟩, hr, hkind, hfull⟩
    exact ⟨hr, hopen, hkind, by simpa using hfull⟩
  · rintro ⟨hr, hopen, hkind, hfull⟩
    exact ⟨_, ⟨hopen, rfl⟩, hr, hkind, by simpa using hfull⟩

/-- A next state of A.PAYLOAD: the sums, the counters and the next state, with what no payload byte writes (R176). -/
theorem payloadStep_of_next (h : exec (.aPayload b sp) s = .next t) : PayloadStep b s t := by
  obtain ⟨u, hu, rfl⟩ := exec_aPayload_eq_next_iff.mp h
  have hframe := extract_frame hu
  rw [hframe]
  exact ⟨fletcherFolded_foldFletcher b s, rfl, rfl, rfl, rfl⟩

/-- An answer of A.PAYLOAD that is no stop is a next state: no rule faults. -/
theorem exec_aPayload_next_or_refused (b : Byte) (sp : Span) (s : State) :
    (∃ t, exec (.aPayload b sp) s = .next t) ∨ ∃ r, exec (.aPayload b sp) s = .refused r := by
  cases h : exec (.aPayload b sp) s with
  | next t => exact .inl ⟨t, rfl⟩
  | fault f => exact absurd h (exec_ne_fault _ _ f)
  | refused r => exact .inr ⟨r, rfl⟩

/-- The label of a completed field from the accumulator (R130). -/
theorem fieldLabel_eq (d : FieldDescriptor) (e : Nat) (s : State) :
    fieldLabel d e s = completedLabel d e s.fVal s.fBuf s.fCnt := rfl

/-- A next state of A.PAYLOAD on a byte that a descriptor takes: the open build with the byte accumulated, completed at the
last offset (R133). -/
theorem exec_aPayload_of_selected (hsel : selectField s = some (d, e)) (h : exec (.aPayload b sp) s = .next t) :
    ∃ v, accumulate d b ((opened d e sp s).quiet.foldFletcher b) = .ok v ∧
      t = (if s.k.toNat = e then complete d e sp v else v).payloadCounted := by
  obtain ⟨u, hu, rfl⟩ := exec_aPayload_eq_next_iff.mp h
  rcases extract_cases hu with ⟨hnone, -⟩ | ⟨d', e', s1, v, hsel', hopen, hacc, hend⟩
  · exact absurd (hsel.symm.trans hnone) (by simp)
  · cases hsel.symm.trans hsel'
    obtain ⟨-, rfl⟩ := openBuild_eq_ok_iff.mp hopen
    rw [opened_quiet_foldFletcher] at hacc
    obtain ⟨hoffset, -⟩ := accumulate_keeps hacc
    refine ⟨v, hacc, ?_⟩
    rw [show s.k = v.k by simp [hoffset]]
    rcases hend with ⟨hk, rfl⟩ | ⟨hk, rfl⟩
    · rw [if_pos hk]
    · rw [if_neg hk]

end

end Sys2Proof.Machine

namespace Sys2Proof.Claims

open Sys2Proof.Machine

/-- Settles O31: each refusal by the rule that raises it; no rule faults. -/
theorem payloadByteStopsExactlyWhen : Obligations.PayloadByteStopsExactlyWhen := by
  intro s sp b
  refine ⟨by simp [exec_aPayload_refused_iff], by simp [exec_aPayload_refused_iff], exec_ne_fault _ s, fun r hr => ?_⟩
  obtain ⟨d, e, -, ⟨hmid, -⟩ | ⟨hfull, -⟩⟩ := exec_aPayload_refused_iff.mp hr
  · exact .inl hmid
  · exact .inr hfull

/-- Settles O29: with no applicable descriptor nothing is selected, and the extractor only emits the placeholder. -/
theorem payloadByteWithoutFieldResult : Obligations.PayloadByteWithoutFieldResult := by
  intro s sp b hnone
  have hsel : selectField (s.quiet.foldFletcher b) = none := selectField_eq_none_iff.mpr hnone
  have hnext : exec (.aPayload b sp) s = .next (placeholder b sp (s.quiet.foldFletcher b)).payloadCounted :=
    exec_aPayload_eq_next_iff.mpr ⟨_, by simp [extract, hsel], rfl⟩
  exact ⟨_, hnext, payloadStep_of_next hnext, rfl, rfl⟩

/-- Settles O37: the descriptor ends past this byte, so the byte is accumulated and not completed. -/
theorem cutOffFieldIsNeverEmitted : Obligations.CutOffFieldIsNeverEmitted := by
  intro s t sp b d e hsel hk he h
  obtain ⟨hfold, hcount, -⟩ := payloadStep_of_next h
  obtain ⟨v, hacc, rfl⟩ := exec_aPayload_of_selected hsel h
  refine ⟨?_, hfold, ?_⟩
  · obtain ⟨-, -, -, -, -, -, -, hann⟩ := accumulate_keeps hacc
    rw [if_neg (by omega)]
    exact hann
  · rw [hcount]
    bv_omega

/-- Settles O30: neither stop applies, so there is a next state; it is the open build with the byte accumulated, completed at
the last offset. -/
theorem payloadByteOfAFieldResult : Obligations.PayloadByteOfAFieldResult := by
  intro s sp b d e hsel hopen hroom
  rcases exec_aPayload_next_or_refused b sp s with ⟨t, h⟩ | ⟨r, hr⟩
  · obtain ⟨v, hacc, rfl⟩ := exec_aPayload_of_selected hsel h
    obtain ⟨hint, hbytes, hregion⟩ := accumulated_of_accumulate hacc
    obtain ⟨-, hstart, hlo, hhi, hvalid, hlen, hdyn, hann⟩ := accumulate_keeps hacc
    simp only [State.foldFletcher_k, State.quiet_k, opened_k] at hint
    simp only [State.foldFletcher_dynLen, State.quiet_dynLen, opened_dynLen] at hlen
    simp only [State.foldFletcher_dynValid, State.quiet_dynValid, opened_dynValid] at hdyn
    refine ⟨_, h, payloadStep_of_next h, ?_⟩
    by_cases hk : s.k.toNat = e
    · simp only [if_pos hk, complete_eq, fieldLabel_eq]
      refine ⟨hint, hbytes, hregion, hstart, hlo, hhi, fun _ => ⟨rfl, ?_, ?_, ?_⟩, absurd hk⟩
      · exact ⟨v.startTime sp, rfl, fun ta hta => startTime_of_some (hstart.trans hta) sp⟩
      · intro hcapture
        simp [hcapture, State.payloadCounted]
      · intro hcapture
        simp [hcapture, State.payloadCounted, hlen, hdyn]
    · simp only [if_neg hk]
      exact ⟨hint, hbytes, hregion, hstart, hlo, hhi, (absurd · hk), fun _ => ⟨hvalid, hann, hlen, hdyn⟩⟩
  · obtain ⟨d', e', hsel', hstop⟩ := exec_aPayload_refused_iff.mp hr
    cases hsel.symm.trans hsel'
    rcases hstop with ⟨-, hlo, hbuild⟩ | ⟨-, -, hkind, hfull⟩
    · exact absurd hopen (by simp [hlo, hbuild])
    · exact absurd hfull (hroom hkind)

end Sys2Proof.Claims
end

section
/-! PROOFS. A descriptor pair of the two revisions: changing the revision renames the field and nothing else (rule R135). -/

namespace Sys2Proof

/-- The descriptor's counterpart for revision 1, under its own name (R135). -/
def FieldDescriptor.renamed (n : String) (d : FieldDescriptor) : FieldDescriptor := { d with name := n, rev := .rev1 }

namespace Machine

open Claims

/-- The state under revision 1, with the field name of its annotation replaced (R135). -/
def State.renamed (n : String) (s : State) : State :=
  { s with cfgRev := .rev1, ann := s.ann.map (fun a => { a with label := rename n a.label }) }

variable (n : String) (d : FieldDescriptor) (e : Nat) (b : Byte) (sp : Span) (s : State)

/-- Each revision sees its own descriptor of the pair, with one and the same end (R122). -/
theorem selectField_renamed {d : FieldDescriptor} {s : State} (hd : d.rev = .rev0) (hs : s.cfgRev = .rev0)
    (hplan : s.rom.romPlan s.cls s.mid = [d, d.renamed n]) :
    selectField (s.renamed n) = (selectField s).map (fun x => (x.1.renamed n, x.2)) := by
  have hown : covers (d.renamed n) (s.renamed n) = covers d s := Option.ext fun e => by
    simp [covers_eq_some_iff_applicable, Applicable, FieldDescriptor.renamed, State.renamed, hd, hs]
  have hother : covers d (s.renamed n) = none := by
    simp [covers_eq_none_iff, Applicable, State.renamed, hd]
  have hother' : covers (d.renamed n) s = none := by
    simp [covers_eq_none_iff, Applicable, FieldDescriptor.renamed, hs]
  have hplan' : (s.renamed n).rom.romPlan (s.renamed n).cls (s.renamed n).mid = [d, d.renamed n] := hplan
  simp only [selectField, hplan, hplan', firstApplicable, List.findSome?_cons, hown, hother, hother']
  cases covers d s <;> rfl

theorem openBuild_renamed :
    openBuild (d.renamed n) e sp (s.renamed n) = (openBuild d e sp s).map (State.renamed n) := by
  change (if s.k = d.lo then _ else if continues d e s then _ else _) = _
  unfold openBuild
  split
  · rfl
  · split <;> rfl

theorem accumulate_renamed : accumulate (d.renamed n) b (s.renamed n) = (accumulate d b s).map (State.renamed n) := by
  have hbytes : accumulateBytes b (s.renamed n) = (accumulateBytes b s).map (State.renamed n) := by
    change (if s.bufFull then _ else _) = _
    unfold accumulateBytes
    split <;> rfl
  have hkind : (d.renamed n).kind = d.kind := rfl
  unfold accumulate
  rw [hkind]
  cases d.kind
  case text | array => exact hbytes
  case u | s | region => rfl

theorem fieldLabel_renamed : fieldLabel (d.renamed n) e (s.renamed n) = rename n (fieldLabel d e s) := by
  simp only [fieldLabel, FieldDescriptor.renamed]
  cases d.kind <;> rfl

theorem complete_renamed : complete (d.renamed n) e sp (s.renamed n) = (complete d e sp s).renamed n := by
  rw [complete_eq, complete_eq, fieldLabel_renamed]
  rfl

/-- The extractor under revision 1 answers what it answers under revision 0, with the field's other name (R135). -/
theorem extract_renamed (hsel : selectField (s.renamed n) = (selectField s).map (fun x => (x.1.renamed n, x.2))) :
    extract b sp (s.renamed n) = (extract b sp s).map (State.renamed n) := by
  unfold extract
  rw [hsel]
  cases selectField s with
  | none => rfl
  | some x =>
    obtain ⟨d, e⟩ := x
    simp only [Option.map_some, openBuild_renamed]
    cases openBuild d e sp s with
    | error r => rfl
    | ok s1 =>
      simp only [Except.map, accumulate_renamed]
      cases accumulate d b s1 with
      | error r => rfl
      | ok s2 => simp only [complete_renamed, apply_ite (State.renamed n)]; rfl

/-- So does A.PAYLOAD (R135, R176). -/
theorem exec_aPayload_renamed (hsel : selectField (s.renamed n) = (selectField s).map (fun x => (x.1.renamed n, x.2))) :
    exec (.aPayload b sp) (s.renamed n) = mapNext (State.renamed n) (exec (.aPayload b sp) s) := by
  have hx : extract b sp ((s.renamed n).quiet.foldFletcher b) =
      (extract b sp (s.quiet.foldFletcher b)).map (State.renamed n) :=
    extract_renamed n b sp (s.quiet.foldFletcher b) hsel
  change execAPayload b sp (s.renamed n) = mapNext (State.renamed n) (execAPayload b sp s)
  unfold execAPayload
  rw [hx]
  cases extract b sp (s.quiet.foldFletcher b) with
  | error r => rfl
  | ok t => simp only [Except.map, mapNext, apply_ite (State.renamed n)]; rfl

end Machine
end Sys2Proof

namespace Sys2Proof.Claims

open Sys2Proof.Machine

/-- Settles O38: each revision selects its own descriptor of the pair with one end, and no rule after that reads the
revision, and the name is read for the label alone. -/
theorem revisionChangesOnlyTheName : Obligations.RevisionChangesOnlyTheName := by
  intro s sp b d n hd hplan
  have hsel := selectField_renamed n (s := { s with cfgRev := .rev0 }) hd rfl hplan
  exact exec_aPayload_renamed n b sp _ hsel

end Sys2Proof.Claims
end

section
/-! PROOFS. The step by what is presented: an empty queue, reset, no event and an event (rules R70, R150), and the rows of
`IDLE`, of `ABORT` and of the reserved kinds (rules R151 to R159). -/

namespace Sys2Proof.Machine

/-- What a step answers once row selection has decided (R150). -/
def Fetch.outcome : Fetch → Host.Outcome State Fault Refusal
  | .stop f => .fault f
  | .refuse r => .refused r
  | .noEvent t => .next t.quiet
  | .run i t => exec i t

theorem step_eq_outcome (s : State) : step s = (fetch s).outcome := by
  unfold step
  cases fetch s <;> rfl

theorem step_of_inp_nil {s : State} (hwf : s.rom.wf = true) (hinp : s.inp = []) : step s = .next s.quiet := by
  simp [step_eq_outcome, fetch, hwf, hinp, Fetch.outcome]

theorem step_of_inp_cons {s : State} {p : Ports} {rest : List Ports} (hwf : s.rom.wf = true) (hinp : s.inp = p :: rest) :
    step s = (present p { s with inp := rest }).outcome := by
  simp [step_eq_outcome, fetch, hwf, hinp]

section
variable {p : Ports} {s : State}

theorem present_of_rst (hrst : p.rst = true) : present p s = .run (.reset p.cfgRev) s := by
  have hd : decode (eventWord p s) s.condRegs = .ok (.reset p.cfgRev) := decode_rst _ _ hrst
  simp [present, hrst, hd]

theorem present_of_noEvent (hrst : p.rst = false) (hrev : p.cfgRev = s.cfgRev) (hvalid : p.evValid = false) :
    present p s = .noEvent s := by
  simp [present, hrst, hrev, hvalid]

theorem present_of_decode {i : Instr} (hrst : p.rst = false) (hrev : p.cfgRev = s.cfgRev) (hvalid : p.evValid = true)
    (hd : decode (eventWord p s) s.condRegs = .ok i) : present p s = .run i s := by
  simp [present, hrst, hrev, hvalid, hd]

end

end Sys2Proof.Machine

namespace Sys2Proof.Claims

open Sys2Proof.Machine

/-- Settles O8: nothing is presented, so the step only quiets the port. -/
theorem emptyQueueStepIsQuiet : Obligations.EmptyQueueStepIsQuiet := fun _ => step_of_inp_nil

/-- Settles O7: what the head of the queue presents, in the order reset, no event, selected row. -/
theorem stepRunsTheSelectedRow : Obligations.StepRunsTheSelectedRow := by
  intro s p rest hwf hinp
  rw [step_of_inp_cons hwf hinp]
  refine ⟨fun hrst => ?_, fun hrst hrev => ⟨fun hvalid => ?_, fun hvalid i hd => ?_⟩⟩
  · rw [present_of_rst hrst]; rfl
  · rw [present_of_noEvent (s := { s with inp := rest }) hrst hrev hvalid]; rfl
  · rw [← hrst] at hd
    rw [present_of_decode (s := { s with inp := rest }) hrst hrev hvalid hd]; rfl

/-- Settles O17: the rows by the byte, each rule's own update, and one fold of the CRC evaluated. -/
theorem idleRowsResult : Obligations.IdleRowsResult := by
  have hcrc : Checksum.crcFold Config.crc24qSeed Config.preambleC = 0xE33309 := by decide
  refine ⟨fun _ _ _ _ => byteRow_idle, fun s sp b => ⟨rfl, rfl, ?_, rfl⟩⟩
  rw [← hcrc]
  rfl

theorem frameCleared_clearFrame (s : State) : FrameCleared s.clearFrame := by
  simp [FrameCleared]

/-- `resync` in full, with the code's number (R250, R251). -/
theorem resynced_resync {code : ErrCode} {n : BitVec 4} (hn : code.code = n) (sp : Span) (s : State) :
    Resynced code n sp s (s.resync code sp) :=
  ⟨rfl, hn, frameCleared_clearFrame s, rfl, rfl, rfl, rfl, rfl, rfl⟩

/-- Settles O18: an `ABORT` carries the row of its state code; in a frame the rule is `resync`. -/
theorem abortRowsResult : Obligations.AbortRowsResult := by
  refine ⟨fun rev sp b r code hlegal => (decode_eq_ok_iff rfl).mpr ?_,
    fun s sp code => ⟨rfl, _, rfl, resynced_resync rfl sp s⟩⟩
  split
  · subst code
    exact ⟨rfl, rfl, rfl, rfl, trivial⟩
  · exact ⟨wellFormed_abortFrame_iff.mpr ⟨‹_›, hlegal⟩, rfl, rfl, rfl, trivial⟩

/-- The low bits of a formed word of a reserved kind make the instruction that it carries (R159). -/
theorem carries_reservedKind {kind : BitVec 2} (hkind : 2 ≤ kind.toNat) (rev : ModuleRev) (sp : Span) (st : BitVec 5)
    (b : Byte) (r : CondRegs) :
    Carries ⟨false, rev, formWord kind st b, sp⟩ r (.reservedKind ((formWord kind st b).extractLsb' 0 15) sp) where
  wellFormed := by
    have h13 := bit13_formWord kind st b
    simpa [Instr.WellFormed, Instr.check] using h13
  word := (packWord_eq_top_append_iff.mpr
    ((by decide : ∀ k : BitVec 2, 2 ≤ k.toNat → k &&& 2#2 = 2#2) kind hkind)).symm
  span := rfl
  noReset := rfl
  cond := trivial

/-- Settles O19: the event carries RESERVED_KIND, whose rule is a refusal. -/
theorem reservedKindsAreRefused : Obligations.ReservedKindsAreRefused :=
  ⟨fun rev sp st b r _ hkind => ⟨_, (decode_eq_ok_iff rfl).mpr (carries_reservedKind hkind rev sp st b r)⟩,
    fun _ _ _ => rfl⟩

end Sys2Proof.Claims
end

section
/-! PROOFS. Where a row can go: it stays, it dispatches from `IDLE` on a preamble, it enters a later state of a frame, or it
returns to `IDLE` with the frame cleared (rules R11, R156, R160, R251, R280). -/

namespace Sys2Proof.Machine

/-- The states that follow a preamble (R156). -/
abbrev preambleStates : List (BitVec 5) := [St.seenPreambleA1, St.bBody, St.cLen1]

/-- But for the annotation port, the state is a block just reset, with its own ROM, parameters, revision and inputs (R165). -/
def State.IsFresh (t : State) : Prop := { t with ann := none } = t.fresh

/-- A state code inside a frame, after the state that follows the preamble. -/
abbrev InnerCode (code : BitVec 5) : Prop := code ≠ St.idle ∧ code ∉ preambleStates

/-- Where a row's rule can lead from `s`. -/
inductive Moves (i : Instr) (s t : State) : Prop where
  | stays (h : t.st = s.st)
  | dispatches (hreset : resetOf i = none) (hidle : wordState (encodeWord i) = St.idle) (h : t.st ∈ preambleStates)
  | enters (h : InnerCode t.st)
  | clears (hidle : t.st = St.idle) (h : t.IsFresh)

section
variable {i : Instr} {s t u : State}

theorem Moves.of_goto {code : BitVec 5} (hcode : InnerCode code) : Moves i s (u.goto code) := .enters hcode

theorem Moves.of_goto_ite {c : Prop} [Decidable c] {code code' : BitVec 5} (hcode : InnerCode code)
    (hcode' : InnerCode code') : Moves i s (u.goto (if c then code else code')) :=
  .of_goto (by split <;> assumption)

/-- A payload rule stays, or enters the state that follows the payload (R176, R224, R225). -/
theorem Moves.of_ite_goto {c : Prop} [Decidable c] {code : BitVec 5} (hcode : InnerCode code) (hst : u.st = s.st) :
    Moves i s (if c then u.goto code else u) := by
  split
  · exact .of_goto hcode
  · exact .stays hst

/-- A body byte is folded and appended, or refused (R201). -/
theorem exec_bBody_of_next {b : Byte} {sp : Span} (h : exec (.bBody b sp) s = .next t) :
    t = (s.quiet.foldXor b).append b := by
  dsimp only [exec, execBBody] at h
  split at h
  · cases h
  · exact (Host.Outcome.next.inj h).symm

/-- Every row leads one of these ways, by its `goto`, `finish` or `resync` (R11, R160, R251). -/
theorem exec_moves (h : exec i s = .next t) : Moves i s t := by
  cases i
  case idleNoise | abortIdle =>
    cases h
    exact .stays rfl
  case bBody =>
    rw [exec_bBody_of_next h]
    exact .stays rfl
  case idlePreambleA | idleDelimB | idlePreambleC =>
    cases h
    exact .dispatches rfl (wordState_packWord ..) (by simp)
  case reset | aSync2Bad | aCkaBad | aCkbOk | aCkbBad | bCk1Bad | bCk2Bad | bCrBad | bLfOk | bLfBad | cCrc1Bad | cCrc2Bad
      | cCrc3Ok | cCrc3Bad | abortFrame =>
    cases h
    exact .clears rfl rfl
  case aSync2Ok | aClass | aId | aLen1 | aCkaOk | bEndDelim | bCk1Ok | bCk2Ok | bCrOk | cLen1 | cCrc1Ok | cCrc2Ok =>
    cases h
    exact .of_goto (by decide)
  case aLen2 | cLen2 | cType2 =>
    cases h
    exact .of_goto_ite (by decide) (by decide)
  case cType1 =>
    cases h
    split <;> exact .of_goto (by decide)
  case cSubtype | cPayload =>
    cases h
    exact .of_ite_goto (by decide) rfl
  case aPayload =>
    obtain ⟨u, hu, rfl⟩ := exec_aPayload_eq_next_iff.mp h
    rw [← countPayload_goto_eq]
    exact .of_ite_goto (by decide) (by rw [extract_frame hu]; rfl)
  case reservedKind => cases h

/-- Where a step can lead: as the row that it runs, in the state code that it is presented in (R150). -/
theorem step_moves (h : step s = .next t) :
    t.st = s.st ∨ (s.st = St.idle ∧ t.st ∈ preambleStates) ∨ InnerCode t.st ∨ (t.st = St.idle ∧ t.IsFresh) := by
  rcases step_cases h with ⟨u, hf, rfl⟩ | ⟨i, u, hf, hx⟩
  · rcases fetch_noEvent hf with ⟨-, rfl⟩ | ⟨p, rest, -, -, -, -, rfl⟩ <;> exact .inl rfl
  · have hcode := fetch_run_state hf
    obtain ⟨p, rest, -, -, rfl, -⟩ := fetch_run hf
    cases exec_moves hx with
    | stays hst => exact .inl hst
    | dispatches hreset hidle hst => exact .inr (.inl ⟨(hcode hreset).symm.trans hidle, hst⟩)
    | enters hst => exact .inr (.inr (.inl hst))
    | clears hidle hfresh => exact .inr (.inr (.inr ⟨hidle, hfresh⟩))

end

end Sys2Proof.Machine

namespace Sys2Proof.Claims

open Sys2Proof.Machine

/-- Settles O20: of the four ways a step can lead, only staying and the dispatch from `IDLE` end in such a state. -/
theorem onlyIdleDispatchesOnAPreamble : Obligations.OnlyIdleDispatchesOnAPreamble := by
  intro s t h ht
  rcases step_moves h with hst | ⟨hidle, -⟩ | ⟨-, hinner⟩ | ⟨hidle, -⟩
  · exact .inl hst
  · exact .inr hidle
  · exact absurd ht hinner
  · exact absurd (hidle ▸ ht) (by decide)

end Sys2Proof.Claims
end

section
/-! PROOFS. No rule reads the annotation port (rule R73), so a block returned to `IDLE` runs as the block just reset (rule
R165). -/

namespace Sys2Proof.Machine

section
variable (a : Option Annotation) (s : State)

/-- Every rule writes the port before it can matter. -/
theorem exec_withAnn (i : Instr) : exec i { s with ann := a } = exec i s := by
  cases i <;> rfl

theorem present_withAnn (p : Ports) : (present p { s with ann := a }).outcome = (present p s).outcome := by
  have hd : decode (eventWord p { s with ann := a }) { s with ann := a }.condRegs = decode (eventWord p s) s.condRegs := rfl
  unfold present
  rw [hd]
  change (if !p.rst && p.cfgRev != s.cfgRev then _ else if !p.rst && !p.evValid then _ else _ : Fetch).outcome = _
  split
  · rfl
  · split
    · rfl
    · cases decode (eventWord p s) s.condRegs with
      | error x => rfl
      | ok i => exact exec_withAnn a s i

theorem step_withAnn : step { s with ann := a } = step s := by
  cases hwf : s.rom.wf with
  | false => rw [step_of_rom_ill_formed hwf, step_of_rom_ill_formed (s := { s with ann := a }) hwf]
  | true =>
    by_cases hinp : s.inp = []
    · rw [step_of_inp_nil hwf hinp, step_of_inp_nil (s := { s with ann := a }) hwf hinp]
      rfl
    · obtain ⟨p, rest, hinp⟩ := List.exists_cons_of_ne_nil hinp
      rw [step_of_inp_cons hwf hinp, step_of_inp_cons (s := { s with ann := a }) hwf hinp]
      exact present_withAnn a { s with inp := rest } p

end

section
variable {s t : State}

theorem trace_congr (h : step s = step t) (n : Nat) : trace n s = trace n t := by
  cases n with
  | zero => rfl
  | succ n => simp only [trace, h]

theorem run_succ_congr (h : step s = step t) (n : Nat) :
    Sys2Proof.core.run (n + 1) s = Sys2Proof.core.run (n + 1) t := by
  have hstep : Sys2Proof.core.step s = Sys2Proof.core.step t := h
  simp only [Host.Core.run, hstep]

theorem State.IsFresh.step_eq (h : t.IsFresh) : step t = step t.fresh :=
  (step_withAnn none t).symm.trans (congrArg step h)

end

end Sys2Proof.Machine

namespace Sys2Proof.Claims

open Sys2Proof.Machine

/-- Settles O21: a step into `IDLE` from another state clears the frame, which leaves the block just reset but for the port;
the next step reads no port, so the two runs agree from their first step on. -/
theorem returnToIdleIsAFreshStart : Obligations.ReturnToIdleIsAFreshStart := by
  intro s t hs h ht
  have hfresh : t.IsFresh := by
    rcases step_moves h with hst | ⟨hidle, -⟩ | ⟨hinner, -⟩ | ⟨-, hfresh⟩
    · exact absurd (hst.symm.trans ht) hs
    · exact absurd hidle hs
    · exact absurd ht hinner
    · exact hfresh
  exact ⟨hfresh, fun n => ⟨trace_congr hfresh.step_eq n, run_succ_congr hfresh.step_eq n⟩⟩

end Sys2Proof.Claims
end

section
/-! PROOFS. The rows that leave the annotation port empty (rule R163). -/

namespace Sys2Proof.Machine

open Claims

/-- A payload byte is silent inside a field before its last offset (R124, R130, R134). -/
theorem exec_aPayload_ann_eq_none_iff {b : Byte} {sp : Span} {s t : State} (h : exec (.aPayload b sp) s = .next t) :
    t.ann = none ↔ ∃ d e, selectField s = some (d, e) ∧ s.k.toNat ≠ e := by
  cases hsel : selectField s with
  | none =>
    obtain ⟨u, hu, rfl⟩ := exec_aPayload_eq_next_iff.mp h
    rcases extract_cases hu with ⟨-, rfl⟩ | ⟨d, e, -, -, hsel', -⟩
    · exact iff_of_false nofun (by simp)
    · exact absurd (hsel.symm.trans hsel') nofun
  | some x =>
    obtain ⟨d, e⟩ := x
    obtain ⟨v, hacc, rfl⟩ := exec_aPayload_of_selected hsel h
    by_cases hk : s.k.toNat = e
    · rw [if_pos hk, complete_eq]
      exact iff_of_false nofun (by simp [hk])
    · obtain ⟨-, -, -, -, -, -, -, hann⟩ := accumulate_keeps hacc
      rw [if_neg hk]
      exact iff_of_true hann ⟨d, e, rfl, hk⟩

/-- The first type byte is silent when more payload follows (R222). -/
theorem exec_cType1_ann_eq_none_iff {b : Byte} {sp : Span} {s t : State} (h : exec (.cType1 b sp) s = .next t) :
    t.ann = none ↔ s.rem ≠ 1 := by
  have hlast : s.rem - 1 = 0 ↔ s.rem = 1 := sub_eq_zero
  cases h
  split
  · exact iff_of_false nofun (not_not.mpr (hlast.mp ‹_›))
  · exact iff_of_true rfl (mt hlast.mpr ‹_›)

end Sys2Proof.Machine

namespace Sys2Proof.Claims

open Sys2Proof.Machine

/-- Settles O22: the rows that are always silent, the two that are silent on a condition, and the others, which emit. -/
theorem silentByteStepsAreExactlyTheListed : Obligations.SilentByteStepsAreExactlyTheListed := by
  intro i s t hi h
  cases i
  case reset | abortIdle | abortFrame | reservedKind => cases hi
  case idleNoise | idleDelimB | aLen1 | cLen1 =>
    cases h
    exact iff_of_true rfl (by simp [SilentStep])
  case bBody =>
    rw [exec_bBody_of_next h]
    exact iff_of_true rfl (by simp [SilentStep])
  case aPayload =>
    rw [exec_aPayload_ann_eq_none_iff h]
    simp [SilentStep]
  case cType1 =>
    rw [exec_cType1_ann_eq_none_iff h]
    simp [SilentStep]
  case cType2 =>
    rw [exec, execCType2_eq] at h
    cases h
    exact iff_of_false nofun (by simp [SilentStep])
  case cSubtype | cPayload =>
    cases h
    exact iff_of_false (by split <;> nofun) (by simp [SilentStep])
  -- every other row has no branch and emits
  all_goals
    cases h
    exact iff_of_false nofun (by simp [SilentStep])

end Sys2Proof.Claims
end

section
/-! PROOFS. The revision in force is read by the revision guards alone, so with none in the plan it changes no rule (rules R122,
R162). -/

namespace Sys2Proof.Machine

/-- The state under another revision. -/
def State.withRev (rev : ModuleRev) (s : State) : State := { s with cfgRev := rev }

section
variable (rev : ModuleRev) (d : FieldDescriptor) (e : Nat) (b : Byte) (sp : Span) (s : State)

/-- A descriptor without a revision guard covers the same offsets under every revision (R122). -/
theorem covers_withRev {d : FieldDescriptor} (hd : d.rev = .any) : covers d (s.withRev rev) = covers d s := by
  have hguard (t : State) : revGuard d t = true := by simp [revGuard, hd]
  unfold covers
  rw [hguard, hguard]
  rfl

theorem firstApplicable_withRev {plan : List FieldDescriptor} (hplan : ∀ d ∈ plan, d.rev = .any) :
    firstApplicable plan (s.withRev rev) = firstApplicable plan s := by
  induction plan with
  | nil => rfl
  | cons d plan ih =>
    obtain ⟨hd, hplan⟩ := List.forall_mem_cons.mp hplan
    have htail := ih hplan
    unfold firstApplicable at htail ⊢
    rw [List.findSome?_cons, List.findSome?_cons, covers_withRev rev s hd, htail]

theorem openBuild_withRev : openBuild d e sp (s.withRev rev) = (openBuild d e sp s).map (State.withRev rev) := by
  change (if s.k = d.lo then _ else if continues d e s then _ else _) = _
  unfold openBuild
  split
  · rfl
  · split <;> rfl

theorem accumulate_withRev : accumulate d b (s.withRev rev) = (accumulate d b s).map (State.withRev rev) := by
  have hbytes : accumulateBytes b (s.withRev rev) = (accumulateBytes b s).map (State.withRev rev) := by
    change (if s.bufFull then _ else _) = _
    unfold accumulateBytes
    split <;> rfl
  unfold accumulate
  cases d.kind
  case text | array => exact hbytes
  case u | s | region => rfl

theorem complete_withRev : complete d e sp (s.withRev rev) = (complete d e sp s).withRev rev := by
  rw [complete_eq, complete_eq]
  rfl

/-- Once the same descriptor is selected, the extractor reads no revision (R133). -/
theorem extract_withRev (hsel : selectField (s.withRev rev) = selectField s) :
    extract b sp (s.withRev rev) = (extract b sp s).map (State.withRev rev) := by
  unfold extract
  rw [hsel]
  cases selectField s with
  | none => rfl
  | some x =>
    obtain ⟨d, e⟩ := x
    simp only [openBuild_withRev]
    cases openBuild d e sp s with
    | error r => rfl
    | ok s1 =>
      simp only [Except.map, accumulate_withRev]
      cases accumulate d b s1 with
      | error r => rfl
      | ok s2 => simp only [complete_withRev, apply_ite (State.withRev rev)]; rfl

theorem execAPayload_withRev (hsel : selectField (s.withRev rev) = selectField s) :
    execAPayload b sp (s.withRev rev) = mapNext (State.withRev rev) (execAPayload b sp s) := by
  have hx : extract b sp ((s.withRev rev).quiet.foldFletcher b) =
      (extract b sp (s.quiet.foldFletcher b)).map (State.withRev rev) :=
    extract_withRev rev b sp (s.quiet.foldFletcher b) hsel
  unfold execAPayload
  rw [hx]
  cases extract b sp (s.quiet.foldFletcher b) with
  | error r => rfl
  | ok t => simp only [Except.map, mapNext, apply_ite (State.withRev rev)]; rfl

/-- Beside the selection of A.PAYLOAD's field, no rule but RESET's reads or writes the revision (R162). -/
theorem exec_withRev {i : Instr} (hreset : resetOf i = none)
    (hsel : ∀ b sp, i = .aPayload b sp → selectField (s.withRev rev) = selectField s) :
    exec i (s.withRev rev) = mapNext (State.withRev rev) (exec i s) := by
  cases i
  case reset => cases hreset
  case aPayload b sp => exact execAPayload_withRev rev b sp s (hsel b sp rfl)
  case bBody =>
    simp only [exec, execBBody, apply_ite (mapNext (State.withRev rev))]
    rfl
  case cType1 | cSubtype | cPayload =>
    simp only [exec, execCType1, execCSubtype, execCPayload, mapNext, apply_ite (State.withRev rev)]
    rfl
  case cType2 =>
    simp only [exec, execCType2_eq]
    rfl
  -- the other rules have no branch
  all_goals rfl

end

end Sys2Proof.Machine

namespace Sys2Proof.Claims

open Sys2Proof.Machine

/-- Settles O23: only A.PAYLOAD can read the revision, to select its field, and without guarded descriptors the same field is
selected. -/
theorem revisionIsReadOnlyByGuards : Obligations.RevisionIsReadOnlyByGuards := fun _ s rev hreset hplan =>
  exec_withRev rev s hreset fun b sp hi => firstApplicable_withRev rev s (hplan ⟨b, sp, hi⟩)

end Sys2Proof.Claims
end

section
/-! PROOFS. The rows of protocol A but for the payload: sync, class, id, length and checksum bytes (rules R170 to R175, R177 to
R180). -/

namespace Sys2Proof.Operands

variable (lenb b : Byte)

/-- The length of protocol A is little-endian (R58, R175). -/
theorem toNat_lenA : (lenA lenb b).toNat = lenb.toNat + 256 * b.toNat := by
  have hhigh : (b.zeroExtend 16 <<< 8).toNat = b.toNat <<< 8 := by
    simp only [BitVec.truncate_eq_setWidth, BitVec.toNat_shiftLeft, BitVec.toNat_setWidth, Nat.shiftLeft_eq]
    omega
  rw [lenA, BitVec.or_comm, BitVec.toNat_or, hhigh, BitVec.toNat_setWidth_of_le (by decide),
    ← Nat.shiftLeft_add_eq_or_of_lt lenb.isLt, Nat.shiftLeft_eq]
  omega

theorem lenA_eq_zero_iff : lenA lenb b = 0 ↔ lenb = 0 ∧ b = 0 := by
  have h := toNat_lenA lenb b
  simp [← BitVec.toNat_inj, h]

end Sys2Proof.Operands

namespace Sys2Proof.Claims

open Sys2Proof.Machine

section
variable {rev : ModuleRev} {sp : Span} {b : Byte} {r : CondRegs}

theorem byteRow_seenPreambleA1 :
    byteRow St.seenPreambleA1 b rev sp r = .ok (if b = Config.syncA2 then .aSync2Ok sp else .aSync2Bad b sp) :=
  byteRow_ite (fun h => ⟨rfl, h ▸ rfl, rfl, rfl, trivial⟩) (fun h => ⟨if_neg h, rfl, rfl, rfl, trivial⟩)

theorem byteRow_aClass : byteRow St.aClass b rev sp r = .ok (.aClass b sp) := byteRow_eq ⟨rfl, rfl, rfl, rfl, trivial⟩
theorem byteRow_aId : byteRow St.aId b rev sp r = .ok (.aId b sp) := byteRow_eq ⟨rfl, rfl, rfl, rfl, trivial⟩
theorem byteRow_aLen1 : byteRow St.aLen1 b rev sp r = .ok (.aLen1 b sp) := byteRow_eq ⟨rfl, rfl, rfl, rfl, trivial⟩
theorem byteRow_aLen2 : byteRow St.aLen2 b rev sp r = .ok (.aLen2 b sp) := byteRow_eq ⟨rfl, rfl, rfl, rfl, trivial⟩
theorem byteRow_aPayload : byteRow St.aPayload b rev sp r = .ok (.aPayload b sp) := byteRow_eq ⟨rfl, rfl, rfl, rfl, trivial⟩

theorem byteRow_aCka : byteRow St.aCka b rev sp r = .ok (if b = r.ckA then .aCkaOk b sp else .aCkaBad b sp) :=
  byteRow_ite (⟨rfl, rfl, rfl, rfl, ·⟩) (⟨rfl, rfl, rfl, rfl, ·⟩)

theorem byteRow_aCkb : byteRow St.aCkb b rev sp r = .ok (if b = r.ckB then .aCkbOk b sp else .aCkbBad b sp) :=
  byteRow_ite (⟨rfl, rfl, rfl, rfl, ·⟩) (⟨rfl, rfl, rfl, rfl, ·⟩)

end

/-- An annotation emitted from the value of `f_t0` (R39). -/
theorem fromStart_startTime (s : State) (l : Label) (sp : Span) : FromStart s l sp.t1 (some ⟨l, s.startTime sp, sp.t1⟩) :=
  ⟨s.startTime sp, rfl, fun _ h => startTime_of_some h sp⟩

/-- `finish` in full, after a label that is no `INVALID` (R160). -/
theorem finished_finish {l : Label} {sp : Span} {s : State} (hl : (s.emit l sp.t0 sp.t1).errCode = 0) :
    Finished l sp s (s.emit l sp.t0 sp.t1).finish :=
  ⟨rfl, hl, frameCleared_clearFrame (s.emit l sp.t0 sp.t1), rfl, rfl, rfl, rfl, rfl, rfl⟩

/-- Settles O26: the rows by the byte; one rule goes on with its annotation, the other is `resync`. -/
theorem sync2RowsResult : Obligations.Sync2RowsResult :=
  ⟨fun _ _ _ _ => byteRow_seenPreambleA1, fun s sp _ => ⟨⟨_, rfl, rfl⟩, _, rfl, resynced_resync rfl sp s⟩⟩

/-- Settles O27: each rule's own update; the sums that A.CLASS resets are one fold from the seeds, A.ID's a fold in numbers. -/
theorem classAndIdRowsResult : Obligations.ClassAndIdRowsResult := by
  refine ⟨fun _ _ _ _ => ⟨byteRow_aClass, byteRow_aId⟩,
    fun s sp b => ⟨?_, _, rfl, fletcherFolded_foldFletcher b s, rfl⟩⟩
  have hseed : s.resetFletcher.foldFletcher b = { s with ckA := b, ckB := b } := by
    simp [State.foldFletcher, State.resetFletcher, Checksum.fletcherFold]
  simp only [exec, execAClass, hseed]
  rfl

/-- Settles O28: A.LEN1 records the byte and its start; A.LEN2 assembles the length in numbers, and the length is 0 exactly when
both bytes are. -/
theorem lengthRowsOfProtocolAResult : Obligations.LengthRowsOfProtocolAResult := by
  refine ⟨fun _ _ _ _ => ⟨byteRow_aLen1, byteRow_aLen2⟩,
    fun s sp b => ⟨⟨_, rfl, fletcherFolded_foldFletcher b s, rfl⟩, _, rfl, fletcherFolded_foldFletcher b s,
      Operands.toNat_lenA s.lenb b, rfl, rfl, fromStart_startTime s _ sp, ?_, rfl⟩⟩
  simp only [← Operands.lenA_eq_zero_iff]
  rfl

/-- Settles O32: the rows by the byte against its sum; a right first byte goes on, a right second byte is `finish`, and a wrong one
is `resync`. -/
theorem checksumRowsOfProtocolAResult : Obligations.ChecksumRowsOfProtocolAResult :=
  ⟨fun _ _ _ _ => ⟨byteRow_aCka, byteRow_aCkb⟩, fun s sp _ =>
    ⟨⟨_, rfl, rfl⟩, ⟨_, rfl, resynced_resync rfl sp s⟩, ⟨_, rfl, finished_finish rfl⟩, _, rfl, resynced_resync rfl sp s⟩⟩

end Sys2Proof.Claims
end

section
/-! PROOFS. A stream of bytes one byte at a time: the row that a byte event selects runs, and the run goes on from what it leaves
(rules R71, R150). -/

namespace Sys2Proof.Machine

open Claims

/-- The state with `inp` still to be presented. -/
def State.withInp (inp : List Ports) (s : State) : State := { s with inp := inp }

section
variable {i : Instr} {s t : State} {b : Byte} {sp : Span} {evs : List (Byte × Span)} {rest : List Ports}

/-- No rule but RESET's writes the revision in force (R283). -/
theorem exec_cfgRev (hreset : resetOf i = none) (h : exec i s = .next t) : t.cfgRev = s.cfgRev := by
  have hrev : exec i s = mapNext (State.withRev s.cfgRev) (exec i s) := exec_withRev s.cfgRev s hreset fun _ _ _ => rfl
  rw [h] at hrev
  have ht : t = t.withRev s.cfgRev := Host.Outcome.next.inj hrev
  rw [ht]
  rfl

/-- No rule writes the inputs still to come (R63). -/
theorem exec_inp (h : exec i s = .next t) : t.inp = s.inp := congrArg (·.2.2.2) (exec_unwritten h)

@[simp] theorem runBytes_nil : runBytes s [] rest = .next (s.withInp rest) := rfl

/-- The step on the first byte of a stream runs the row that the byte selects. -/
theorem core_step_byteEvents (hwf : s.rom.wf = true) (hrow : byteRow s.st b s.cfgRev sp s.condRegs = .ok i) :
    Sys2Proof.core.step (s.withInp (byteEvents s.cfgRev ((b, sp) :: evs) ++ rest)) =
      exec i (s.withInp (byteEvents s.cfgRev evs ++ rest)) := by
  obtain ⟨-, hevent⟩ := stepRunsTheSelectedRow (s.withInp (byteEvents s.cfgRev ((b, sp) :: evs) ++ rest)) _ _ hwf rfl
  obtain ⟨-, hvalid⟩ := hevent rfl rfl
  exact hvalid rfl i hrow

/-- After a rule that answers a next state, the rest of the stream runs from there. -/
theorem runBytes_cons_of_next (hwf : s.rom.wf = true) (hrow : byteRow s.st b s.cfgRev sp s.condRegs = .ok i)
    (hx : exec i (s.withInp (byteEvents s.cfgRev evs ++ rest)) = .next t) :
    runBytes s ((b, sp) :: evs) rest = runBytes t evs rest := by
  have hrev : t.cfgRev = (s.withInp _).cfgRev := exec_cfgRev ((decode_eq_ok_iff rfl).mp hrow).noReset hx
  have hinp : t.inp = byteEvents t.cfgRev evs ++ rest := hrev ▸ exec_inp hx
  change Sys2Proof.core.run (evs.length + 1) (s.withInp _) = Sys2Proof.core.run evs.length (t.withInp _)
  simp only [Host.Core.run, core_step_byteEvents hwf hrow, hx, ← hinp]
  rfl

/-- A refused rule ends the run. -/
theorem runBytes_cons_of_refused {r : Refusal} (hwf : s.rom.wf = true)
    (hrow : byteRow s.st b s.cfgRev sp s.condRegs = .ok i)
    (hx : exec i (s.withInp (byteEvents s.cfgRev evs ++ rest)) = .refused r) :
    runBytes s ((b, sp) :: evs) rest = .refused r := by
  change Sys2Proof.core.run (evs.length + 1) (s.withInp _) = _
  simp only [Host.Core.run, core_step_byteEvents hwf hrow, hx]
  rfl

/-- In `IDLE` every byte is taken: it starts a frame or is noise (R151 to R154). -/
theorem runBytes_cons_of_idle (hwf : s.rom.wf = true) (hst : s.st = St.idle) (b : Byte) (sp : Span)
    (evs : List (Byte × Span)) (rest : List Ports) : ∃ t, runBytes s ((b, sp) :: evs) rest = runBytes t evs rest := by
  have hrow : byteRow s.st b s.cfgRev sp s.condRegs = _ := hst ▸ byteRow_idle
  split_ifs at hrow
  all_goals exact ⟨_, runBytes_cons_of_next hwf hrow rfl⟩

end

end Sys2Proof.Machine
end

section
/-! PROOFS. A protocol A frame from `IDLE` to its checksum bytes, and what these decide (rules R170 to R181). -/

namespace Sys2Proof.Machine

open Claims

/-- Inside a protocol A frame of class `c` and id `i` that began in `s`: the bytes `bytes` of the checksum window are folded and `n`
payload bytes are left (R173 to R176, R181). -/
structure InAWindow (s : State) (c i : Byte) (bytes : List Byte) (n : Nat) (t : State) : Prop where
  st : t.st = if n = 0 then St.aCka else St.aPayload
  sums : (t.ckA, t.ckB) = Checksum.fletcher bytes
  left : t.rem.toNat = n
  rom : t.rom = s.rom
  cls : t.cls = c
  mid : t.mid = i

section
variable {s t u : State} {c i b : Byte} {bytes : List Byte} {n : Nat} {sp : Span} {rest : List Ports}

/-- The two sync bytes, class, id and length run from `IDLE` into the window (R151, R170 to R175). -/
theorem runBytes_aHeader (hst : s.st = St.idle) (hwf : s.rom.wf = true) (c i lo hi : Byte) (p0 p1 p2 p3 p4 p5 : Span)
    (evs : List (Byte × Span)) (rest : List Ports) :
    ∃ t, InAWindow s c i [c, i, lo, hi] (lo.toNat + 256 * hi.toNat) t ∧
      runBytes s ((0xB5, p0) :: (0x62, p1) :: (c, p2) :: (i, p3) :: (lo, p4) :: (hi, p5) :: evs) rest =
        runBytes t evs rest := by
  have hidle : byteRow s.st 0xB5 s.cfgRev p0 s.condRegs = .ok (.idlePreambleA p0) := hst ▸ byteRow_idle
  have hsync {rev : ModuleRev} {r : CondRegs} : byteRow St.seenPreambleA1 0x62 rev p1 r = .ok (.aSync2Ok p1) :=
    byteRow_seenPreambleA1
  have hlen := Operands.toNat_lenA lo hi
  have hempty : Operands.lenA lo hi = 0 ↔ lo.toNat + 256 * hi.toNat = 0 := by simp [← hlen, ← BitVec.toNat_inj]
  refine ⟨_, ?_, Eq.trans (runBytes_cons_of_next hwf hidle rfl) <| Eq.trans (runBytes_cons_of_next hwf hsync rfl) <|
    Eq.trans (runBytes_cons_of_next hwf byteRow_aClass rfl) <| Eq.trans (runBytes_cons_of_next hwf byteRow_aId rfl) <|
    Eq.trans (runBytes_cons_of_next hwf byteRow_aLen1 rfl) (runBytes_cons_of_next hwf byteRow_aLen2 rfl)⟩
  exact ⟨if_congr hempty rfl rfl, rfl, hlen, rfl, rfl, rfl⟩

/-- A payload byte that is taken is folded into the window and counted (R176). -/
theorem InAWindow.of_aPayload (ht : InAWindow s c i bytes (n + 1) t) (h : exec (.aPayload b sp) (t.withInp rest) = .next u) :
    InAWindow s c i (bytes ++ [b]) n u := by
  obtain ⟨hst, hsums, hleft, hrom, hcls, hmid⟩ := ht
  obtain ⟨v, hv, rfl⟩ := exec_aPayload_eq_next_iff.mp h
  rw [extract_frame hv]
  have hlast : t.rem = 1 ↔ n = 0 := by simp [← BitVec.toNat_inj, hleft]
  refine ⟨if_congr hlast rfl hst, ?_, ?_, hrom, hcls, hmid⟩
  · rw [Checksum.fletcher_concat, ← hsums]
    rfl
  · change (t.rem - 1).toNat = n
    bv_omega

/-- The payload runs to the end of the window, or a byte of it is refused, which takes a plan (R126, R128, R176). -/
theorem runBytes_aPayload (hwf : s.rom.wf = true) (payload evs : List (Byte × Span)) (rest : List Ports)
    (ht : InAWindow s c i bytes payload.length t) :
    (∃ u, InAWindow s c i (bytes ++ payload.map (·.1)) 0 u ∧ runBytes t (payload ++ evs) rest = runBytes u evs rest) ∨
      s.rom.romPlan c i ≠ [] ∧ ∃ r, runBytes t (payload ++ evs) rest = .refused r := by
  induction payload generalizing bytes t with
  | nil => exact .inl ⟨t, by simpa using ht, rfl⟩
  | cons e payload ih =>
    obtain ⟨b, sp⟩ := e
    have hwf' : t.rom.wf = true := ht.rom ▸ hwf
    have hrow : byteRow t.st b t.cfgRev sp t.condRegs = .ok (.aPayload b sp) := by
      rw [ht.st]
      exact byteRow_aPayload
    rcases exec_aPayload_next_or_refused b sp (t.withInp (byteEvents t.cfgRev (payload ++ evs) ++ rest)) with
      ⟨u, hu⟩ | ⟨r, hr⟩
    · rw [List.cons_append, runBytes_cons_of_next hwf' hrow hu]
      simpa using ih (ht.of_aPayload hu)
    · obtain ⟨d, k, hsel, -⟩ := exec_aPayload_refused_iff.mp hr
      obtain ⟨pre, post, hplan, -⟩ := selectField_eq_some_iff.mp hsel
      refine .inr ⟨?_, r, runBytes_cons_of_refused hwf' hrow hr⟩
      rw [← ht.rom, ← ht.cls, ← ht.mid]
      exact hplan ▸ by simp

/-- The first checksum byte against the first sum: on to A_CKB with the second sum kept, or back to `IDLE` (R177, R178). -/
theorem runBytes_aCka (hwf : t.rom.wf = true) (hst : t.st = St.aCka) (x : Byte) (sp : Span) (evs : List (Byte × Span))
    (rest : List Ports) :
    ∃ u, runBytes t ((x, sp) :: evs) rest = runBytes u evs rest ∧ u.rom = t.rom ∧
      u.ann = some ⟨if x = t.ckA then .valid .ckA else .invalid .ckA, sp.t0, sp.t1⟩ ∧
      u.st = (if x = t.ckA then St.aCkb else St.idle) ∧ (x = t.ckA → u.ckB = t.ckB) := by
  have hrow : byteRow t.st x t.cfgRev sp t.condRegs = .ok (if x = t.ckA then .aCkaOk x sp else .aCkaBad x sp) :=
    hst ▸ byteRow_aCka
  split_ifs at hrow ⊢ with hx
  · exact ⟨_, runBytes_cons_of_next hwf hrow rfl, rfl, rfl, rfl, fun _ => rfl⟩
  · exact ⟨_, runBytes_cons_of_next hwf hrow rfl, rfl, rfl, rfl, (absurd · hx)⟩

/-- The second checksum byte against the second sum; either way the block is back in `IDLE` (R179, R180). -/
theorem runBytes_aCkb (hwf : t.rom.wf = true) (hst : t.st = St.aCkb) (y : Byte) (sp : Span) (evs : List (Byte × Span))
    (rest : List Ports) :
    ∃ u, runBytes t ((y, sp) :: evs) rest = runBytes u evs rest ∧
      u.ann = some ⟨if y = t.ckB then .valid .ckB else .invalid .ckB, sp.t0, sp.t1⟩ ∧ u.st = St.idle := by
  have hrow : byteRow t.st y t.cfgRev sp t.condRegs = .ok (if y = t.ckB then .aCkbOk y sp else .aCkbBad y sp) :=
    hst ▸ byteRow_aCkb
  split_ifs at hrow ⊢
  all_goals exact ⟨_, runBytes_cons_of_next hwf hrow rfl, rfl, rfl⟩

end

end Sys2Proof.Machine

namespace Sys2Proof.Claims

open Sys2Proof.Machine

/-- Settles O33: the header enters the checksum window and every payload byte is folded into it, by induction over the payload;
then each checksum byte is compared with its sum. A run that is refused in the payload has no next state, and has a plan. -/
theorem protocolAFrameWindow : Obligations.ProtocolAFrameWindow := by
  intro s rest c i lo hi x y p0 p1 p2 p3 p4 p5 q1 q2 payload hst hwf hlen body sums
  have hframe (evs : List (Byte × Span)) :
      (∃ v, InAWindow s c i ([c, i, lo, hi] ++ payload.map (·.1)) 0 v ∧
        runBytes s (body ++ evs) rest = runBytes v evs rest) ∨
      s.rom.romPlan c i ≠ [] ∧ ∃ r, runBytes s (body ++ evs) rest = .refused r := by
    obtain ⟨t, ht, hrun⟩ := runBytes_aHeader hst hwf c i lo hi p0 p1 p2 p3 p4 p5 (payload ++ evs) rest
    simp only [body, List.cons_append, List.nil_append, hrun]
    exact runBytes_aPayload hwf payload evs rest (hlen ▸ ht)
  have hnext {evs : List (Byte × Span)} {t : State} (h : runBytes s (body ++ evs) rest = .next t) :
      ∃ v, v.rom.wf = true ∧ v.st = St.aCka ∧ v.ckA = sums.1 ∧ v.ckB = sums.2 ∧ runBytes v evs rest = .next t := by
    rcases hframe evs with ⟨v, hv, hrun⟩ | ⟨-, r, hrun⟩
    · obtain ⟨hA, hB⟩ := Prod.ext_iff.mp hv.sums
      exact ⟨v, hv.rom ▸ hwf, hv.st, hA, hB, hrun ▸ h⟩
    · cases hrun.symm.trans h
  refine ⟨fun t h => ?_, fun t h => ?_, fun t hx h => ?_, fun hplan => ?_⟩
  · obtain ⟨v, -, hst', hA, hB, hrun⟩ := hnext (evs := []) (by rwa [List.append_nil])
    rw [runBytes_nil] at hrun
    cases hrun
    exact ⟨hst', Prod.ext hA hB⟩
  · obtain ⟨v, hwf', hst', hA, -, hrun⟩ := hnext h
    obtain ⟨u, hstep, -, hann, hcode, -⟩ := runBytes_aCka hwf' hst' x q1 [] rest
    rw [hstep, runBytes_nil] at hrun
    cases hrun
    rw [← hA]
    exact ⟨hann, hcode⟩
  · obtain ⟨v, hwf', hst', hA, hB, hrun⟩ := hnext h
    obtain ⟨u, hstep, hrom, -, hcode, hkept⟩ := runBytes_aCka hwf' hst' x q1 [(y, q2)] rest
    have hx' : x = v.ckA := hx.trans hA.symm
    rw [if_pos hx'] at hcode
    obtain ⟨w, hstep', hann, hidle⟩ := runBytes_aCkb (hrom ▸ hwf') hcode y q2 [] rest
    rw [hstep, hstep', runBytes_nil] at hrun
    cases hrun
    rw [← hB, ← hkept hx']
    exact ⟨hann, hidle⟩
  · obtain ⟨v, hv, hrun⟩ := (hframe [(x, q1), (y, q2)]).resolve_right fun h => h.1 hplan
    have hwf' : v.rom.wf = true := hv.rom ▸ hwf
    obtain ⟨u, hstep, hrom, -, hcode, -⟩ := runBytes_aCka hwf' hv.st x q1 [(y, q2)] rest
    rw [hrun, hstep]
    split at hcode
    · obtain ⟨w, hstep', -⟩ := runBytes_aCkb (hrom ▸ hwf') hcode y q2 [] rest
      exact ⟨_, hstep'.trans runBytes_nil⟩
    · obtain ⟨w, hstep'⟩ := runBytes_cons_of_idle (hrom ▸ hwf') hcode y q2 [] rest
      exact ⟨_, hstep'.trans runBytes_nil⟩

end Sys2Proof.Claims
end

section
/-! PROOFS. The rows of protocol B: body, end delimiter, checksum characters and terminators (rules R200 to R209). -/

namespace Sys2Proof.Machine

section
variable {b : Byte} {s : State}

/-- With room in the buffer a body byte is folded and appended (R201). -/
theorem exec_bBody_of_room (sp : Span) (h : s.textCap ≠ some s.fBuf.length) :
    exec (.bBody b sp) s = .next { s with nx := s.nx ^^^ b, fBuf := s.fBuf ++ [b], ann := none } :=
  if_neg (mt beq_iff_eq.mp h)

/-- With the buffer full it is refused (R201). -/
theorem exec_bBody_of_full (sp : Span) (h : s.textCap = some s.fBuf.length) : exec (.bBody b sp) s = .refused .textOverflow :=
  if_pos (beq_iff_eq.mpr h)

end

end Sys2Proof.Machine

namespace Sys2Proof.Claims

open Sys2Proof.Machine

section
variable {rev : ModuleRev} {sp : Span} {b : Byte} {r : CondRegs}

theorem byteRow_bBody : byteRow St.bBody b rev sp r = .ok (if b = Config.delimBEnd then .bEndDelim sp else .bBody b sp) :=
  byteRow_ite (fun h => ⟨rfl, h ▸ rfl, rfl, rfl, trivial⟩) (fun h => ⟨if_neg h, rfl, rfl, rfl, trivial⟩)

theorem byteRow_bCk1 :
    byteRow St.bCk1 b rev sp r = .ok (if b = Operands.nmeaChar1 r.nx then .bCk1Ok b sp else .bCk1Bad b sp) :=
  byteRow_ite (⟨rfl, rfl, rfl, rfl, ·⟩) (⟨rfl, rfl, rfl, rfl, ·⟩)

theorem byteRow_bCk2 :
    byteRow St.bCk2 b rev sp r = .ok (if b = Operands.nmeaChar2 r.nx then .bCk2Ok b sp else .bCk2Bad b sp) :=
  byteRow_ite (⟨rfl, rfl, rfl, rfl, ·⟩) (⟨rfl, rfl, rfl, rfl, ·⟩)

theorem byteRow_bCr : byteRow St.bCr b rev sp r = .ok (if b = Config.termCr then .bCrOk sp else .bCrBad b sp) :=
  byteRow_ite (fun h => ⟨rfl, h ▸ rfl, rfl, rfl, trivial⟩) (fun h => ⟨if_neg h, rfl, rfl, rfl, trivial⟩)

theorem byteRow_bLf : byteRow St.bLf b rev sp r = .ok (if b = Config.termLf then .bLfOk sp else .bLfBad b sp) :=
  byteRow_ite (fun h => ⟨rfl, h ▸ rfl, rfl, rfl, trivial⟩) (fun h => ⟨if_neg h, rfl, rfl, rfl, trivial⟩)

end

/-- Settles O39: the rows by the byte; `*` shows the buffer from the recorded start, and a body byte is appended or refused by the
room in the buffer. -/
theorem bodyRowsResult : Obligations.BodyRowsResult :=
  ⟨fun _ _ _ _ => byteRow_bBody, fun s sp _ =>
    ⟨⟨_, rfl, fromStart_startTime s _ sp, rfl⟩, exec_bBody_of_room sp, exec_bBody_of_full sp⟩⟩

/-- Settles O40: the rows by the byte against its character; a right one goes on, a wrong one is `resync`. -/
theorem checksumRowsOfProtocolBResult : Obligations.ChecksumRowsOfProtocolBResult :=
  ⟨fun _ _ _ _ => ⟨byteRow_bCk1, byteRow_bCk2⟩, fun s sp _ =>
    ⟨⟨_, rfl, rfl⟩, ⟨_, rfl, resynced_resync rfl sp s⟩, ⟨_, rfl, rfl⟩, _, rfl, resynced_resync rfl sp s⟩⟩

/-- Settles O41: the rows by the byte; CR goes on, LF is `finish`, and any other byte is `resync`. -/
theorem terminatorRowsResult : Obligations.TerminatorRowsResult :=
  ⟨fun _ _ _ _ => ⟨byteRow_bCr, byteRow_bLf⟩, fun s sp _ =>
    ⟨⟨_, rfl, rfl⟩, ⟨_, rfl, resynced_resync rfl sp s⟩, ⟨_, rfl, finished_finish rfl⟩, _, rfl, resynced_resync rfl sp s⟩⟩

end Sys2Proof.Claims
end

section
/-! PROOFS. The XOR of a body and its two characters under a flipped bit (rules R104, R107, R210). -/

namespace Sys2Proof.Checksum

/-- The XOR engine carries a difference through every fold (R104). -/
theorem foldl_xorFold_xor (bs : List Byte) (x m : Byte) : bs.foldl xorFold (x ^^^ m) = bs.foldl xorFold x ^^^ m := by
  induction bs generalizing x with
  | nil => rfl
  | cons b bs ih =>
    have hswap : xorFold (x ^^^ m) b = xorFold x b ^^^ m := by simp only [xorFold, BitVec.xor_assoc, BitVec.xor_comm m]
    rw [List.foldl_cons, List.foldl_cons, hswap, ih]

/-- A difference in one byte of a string is the difference of the XOR. -/
theorem xor8_xor_byte (pre post : List Byte) (b m : Byte) :
    xor8 (pre ++ (b ^^^ m) :: post) = xor8 (pre ++ b :: post) ^^^ m := by
  rw [xor8_append, xor8_append, List.foldl_cons, List.foldl_cons, ← foldl_xorFold_xor, xorFold, xorFold, BitVec.xor_assoc]

end Sys2Proof.Checksum

namespace Sys2Proof.Operands

theorem hexChar_injective : Function.Injective hexChar := by decide

theorem ne_xor_iff {w : Nat} (a c : BitVec w) : a ≠ a ^^^ c ↔ c ≠ 0#w := by
  have hcancel := BitVec.xor_right_inj (x := c) (y := 0#w) a
  rw [BitVec.xor_zero] at hcancel
  exact (eq_comm.trans hcancel).not

theorem nmeaChar1_ne_iff (x m : Byte) : nmeaChar1 x ≠ nmeaChar1 (x ^^^ m) ↔ hiNibble m ≠ 0 := by
  rw [nmeaChar1, nmeaChar1, hexChar_injective.ne_iff, hiNibble, hiNibble, BitVec.extractLsb'_xor]
  exact ne_xor_iff ..

theorem nmeaChar2_ne_iff (x m : Byte) : nmeaChar2 x ≠ nmeaChar2 (x ^^^ m) ↔ loNibble m ≠ 0 := by
  rw [nmeaChar2, nmeaChar2, hexChar_injective.ne_iff, loNibble, loNibble, BitVec.extractLsb'_xor]
  exact ne_xor_iff ..

end Sys2Proof.Operands

namespace Sys2Proof.Claims

/-- Settles O43: the flipped bit is carried to the XOR, and lies in the nibble of exactly one character. -/
theorem flippedBodyBitChangesOneCharacter : Obligations.FlippedBodyBitChangesOneCharacter := by
  intro pre post b j hj x y
  have hy : y = x ^^^ (1#8 <<< j) := Checksum.xor8_xor_byte pre post b _
  have hhigh : ∀ j < 8, Operands.hiNibble (1#8 <<< j) ≠ 0 ↔ 4 ≤ j := by decide
  have hlow : ∀ j < 8, Operands.loNibble (1#8 <<< j) ≠ 0 ↔ j < 4 := by decide
  rw [hy]
  exact ⟨rfl, (Operands.nmeaChar1_ne_iff x _).trans (hhigh j hj), (Operands.nmeaChar2_ne_iff x _).trans (hlow j hj)⟩

end Sys2Proof.Claims
end

section
/-! PROOFS. A run over a stream of bytes that answers a next state, taken apart one byte at a time (rules R71, R150). -/

namespace Sys2Proof.Machine

open Claims

/-- A byte event took the block from `s` to `t`: the row that it selects ran (R71, R74). -/
def ByteStep (b : Byte) (sp : Span) (s t : State) : Prop :=
  ∃ i inp, byteRow s.st b s.cfgRev sp s.condRegs = .ok i ∧ exec i (s.withInp inp) = .next t

section
variable {s t u : State} {b : Byte} {sp : Span} {evs : List (Byte × Span)} {rest : List Ports}

/-- A run of one step more that answers a next state. -/
theorem core_step_of_run_succ {n : Nat} (h : Sys2Proof.core.run (n + 1) s = .next u) : ∃ t, step s = .next t := by
  simp only [Host.Core.run] at h
  split at h
  · exact ⟨_, ‹_›⟩
  · cases h
  · cases h

/-- A run over a stream that answers a next state took the first byte, and goes on from there. -/
theorem byteStep_of_runBytes_cons (h : runBytes s ((b, sp) :: evs) rest = .next u) :
    ∃ t, ByteStep b sp s t ∧ runBytes t evs rest = .next u := by
  obtain ⟨t, hstep⟩ := core_step_of_run_succ h
  rcases step_cases hstep with ⟨v, hf, -⟩ | ⟨i, v, hf, hx⟩
  · rcases fetch_noEvent hf with ⟨hinp, -⟩ | ⟨p, _, hinp, -, hvalid, -⟩
    · cases hinp
    · cases hinp
      cases hvalid
  · obtain ⟨p, inp, hwf, hinp, rfl, -, hrow⟩ := fetch_run hf
    cases hinp
    exact ⟨t, ⟨i, _, hrow, hx⟩, runBytes_cons_of_next hwf hrow hx ▸ h⟩

/-- The row that the byte selects is the one that ran (R74). -/
theorem ByteStep.exec_eq_next {i : Instr} (h : ByteStep b sp s t) (hrow : byteRow s.st b s.cfgRev sp s.condRegs = .ok i) :
    ∃ inp, exec i (s.withInp inp) = .next t := by
  obtain ⟨j, inp, hrow', hx⟩ := h
  cases hrow.symm.trans hrow'
  exact ⟨inp, hx⟩

end

end Sys2Proof.Machine
end

section
/-! PROOFS. A protocol B sentence from `IDLE` to `*`, and what its two checksum characters decide (rules R200 to R210). -/

namespace Sys2Proof.Machine

open Claims

/-- Inside a protocol B sentence that began in `s` at time `t0`: the bytes `bytes` are folded and buffered (R152, R201). -/
structure InBBody (s : State) (t0 : TS) (bytes : List Byte) (t : State) : Prop where
  st : t.st = St.bBody
  xor : t.nx = Checksum.xor8 bytes
  buf : t.fBuf = bytes
  start : t.fT0 = some t0
  rom : t.rom = s.rom
  cap : t.textCap = s.textCap

section
variable {s t u : State} {t0 : TS} {bytes : List Byte}

/-- A body byte that fits is folded and buffered (R201). -/
theorem InBBody.runBytes_cons (hwf : s.rom.wf = true) {b : Byte} (hb : b ≠ Config.delimBEnd) (sp : Span)
    (evs : List (Byte × Span)) (rest : List Ports) (ht : InBBody s t0 bytes t) (hroom : s.textCap ≠ some bytes.length) :
    ∃ u, InBBody s t0 (bytes ++ [b]) u ∧ runBytes t ((b, sp) :: evs) rest = runBytes u evs rest := by
  obtain ⟨hst, hxor, hbuf, hstart, hrom, hcap⟩ := ht
  have hrow : byteRow t.st b t.cfgRev sp t.condRegs = .ok (.bBody b sp) := by
    rw [hst, byteRow_bBody, if_neg hb]
  refine ⟨_, ?_, runBytes_cons_of_next (hrom ▸ hwf) hrow (exec_bBody_of_room sp ?_)⟩
  · exact ⟨hst, by rw [Checksum.xor8_concat, ← hxor]; rfl, congrArg (· ++ [b]) hbuf, hstart, hrom, hcap⟩
  · change t.textCap ≠ some t.fBuf.length
    rwa [hcap, hbuf]

/-- A body without `*` that fits the buffer is folded and buffered to its end (R201). -/
theorem InBBody.runBytes_append (hwf : s.rom.wf = true) (body evs : List (Byte × Span)) (rest : List Ports)
    (hbody : ∀ x ∈ body, x.1 ≠ Config.delimBEnd) (hroom : ∀ n, s.textCap = some n → bytes.length + body.length ≤ n)
    (ht : InBBody s t0 bytes t) :
    ∃ u, InBBody s t0 (bytes ++ body.map (·.1)) u ∧ runBytes t (body ++ evs) rest = runBytes u evs rest := by
  induction body generalizing bytes t with
  | nil => exact ⟨t, by simpa using ht, rfl⟩
  | cons e body ih =>
    obtain ⟨b, sp⟩ := e
    obtain ⟨hb, hbody⟩ := List.forall_mem_cons.mp hbody
    simp only [List.length_cons] at hroom
    obtain ⟨u, hu, hstep⟩ := ht.runBytes_cons hwf hb sp (body ++ evs) rest fun hfull => by
      have := hroom _ hfull
      omega
    obtain ⟨v, hv, hrun⟩ := ih hbody (fun n hn => by simpa [Nat.add_assoc, Nat.add_comm 1] using hroom n hn) hu
    exact ⟨v, by simpa using hv, hstep.trans hrun⟩

/-- A sentence runs from `IDLE` through `*`, which shows its body (R152, R200, R201). -/
theorem runBytes_sentence (hst : s.st = St.idle) (hwf : s.rom.wf = true) (p0 p1 : Span) (body evs : List (Byte × Span))
    (rest : List Ports) (hbody : ∀ x ∈ body, x.1 ≠ Config.delimBEnd)
    (hroom : ∀ n, s.textCap = some n → body.length ≤ n) :
    ∃ t, t.st = St.bCk1 ∧ t.nx = Checksum.xor8 (body.map (·.1)) ∧
      t.ann = some ⟨.sentence (body.map (·.1)), p0.t0, p1.t1⟩ ∧ t.rom = s.rom ∧
      runBytes s ((0x24, p0) :: body ++ [(0x2A, p1)] ++ evs) rest = runBytes t evs rest := by
  rw [List.append_assoc, List.singleton_append, List.cons_append]
  have hidle : byteRow s.st 0x24 s.cfgRev p0 s.condRegs = .ok (.idleDelimB p0) := hst ▸ byteRow_idle
  obtain ⟨t, ht, hstart⟩ : ∃ t, InBBody s p0.t0 [] t ∧
      runBytes s ((0x24, p0) :: (body ++ (0x2A, p1) :: evs)) rest = runBytes t (body ++ (0x2A, p1) :: evs) rest := by
    refine ⟨_, ?_, runBytes_cons_of_next hwf hidle rfl⟩
    exact ⟨rfl, rfl, rfl, rfl, rfl, rfl⟩
  obtain ⟨u, hu, hrun⟩ := ht.runBytes_append hwf body ((0x2A, p1) :: evs) rest hbody (by simpa using hroom)
  have hrow : byteRow u.st 0x2A u.cfgRev p1 u.condRegs = .ok (.bEndDelim p1) := hu.st ▸ byteRow_bBody
  refine ⟨_, ?_, ?_, ?_, ?_, (hstart.trans hrun).trans (runBytes_cons_of_next (hu.rom ▸ hwf) hrow rfl)⟩
  · rfl
  · exact hu.xor
  · change some (AnnotationOf.mk (.sentence u.fBuf) (u.startTime p1) p1.t1) = _
    rw [hu.buf, startTime_of_some hu.start]
    rfl
  · exact hu.rom

/-- With the two characters of the XOR, then CR and LF, the sentence completes (R202, R204, R206, R208). -/
theorem runBytes_bEnd_of_match (hst : t.st = St.bCk1) (hwf : t.rom.wf = true) {h1 h2 : Byte}
    (hh1 : h1 = Operands.nmeaChar1 t.nx) (hh2 : h2 = Operands.nmeaChar2 t.nx) (p2 p3 p4 p5 : Span) (rest : List Ports) :
    ∃ u, runBytes t [(h1, p2), (h2, p3), (0x0D, p4), (0x0A, p5)] rest = .next u ∧
      u.ann = some ⟨.term .lf, p5.t0, p5.t1⟩ ∧ u.st = St.idle := by
  have hrow1 : byteRow t.st h1 t.cfgRev p2 t.condRegs = .ok (.bCk1Ok h1 p2) :=
    hst ▸ byteRow_bCk1.trans (congrArg _ (if_pos hh1))
  have hrow2 {rev : ModuleRev} : byteRow St.bCk2 h2 rev p3 t.condRegs = .ok (.bCk2Ok h2 p3) :=
    byteRow_bCk2.trans (congrArg _ (if_pos hh2))
  have hcr {rev : ModuleRev} {r : CondRegs} : byteRow St.bCr 0x0D rev p4 r = .ok (.bCrOk p4) := byteRow_bCr
  have hlf {rev : ModuleRev} {r : CondRegs} : byteRow St.bLf 0x0A rev p5 r = .ok (.bLfOk p5) := byteRow_bLf
  exact ⟨_, Eq.trans (runBytes_cons_of_next hwf hrow1 rfl) <| Eq.trans (runBytes_cons_of_next hwf hrow2 rfl) <|
    Eq.trans (runBytes_cons_of_next hwf hcr rfl) <| Eq.trans (runBytes_cons_of_next hwf hlf rfl) runBytes_nil, rfl, rfl⟩

section
variable {b : Byte} {sp : Span}

/-- From `IDLE` a byte leads to `IDLE` or to a state that follows a preamble (R151 to R154). -/
theorem ByteStep.st_of_idle (h : ByteStep b sp s t) (hst : s.st = St.idle) : t.st ∈ St.idle :: preambleStates := by
  obtain ⟨i, inp, hrow, hx⟩ := h
  rw [hst, byteRow_idle] at hrow
  split_ifs at hrow
  all_goals
    cases hrow
    cases hx
    simp [State.withInp, hst]

/-- From there CR leads to no state of protocol B but the body. -/
theorem ByteStep.st_of_cr (h : ByteStep 0x0D sp s t) (hst : s.st ∈ St.idle :: preambleStates) :
    t.st ∈ [St.idle, St.bBody, St.cLen2] := by
  simp only [List.mem_cons, List.not_mem_nil, or_false] at hst
  rcases hst with hst | hst | hst | hst
  · obtain ⟨inp, hx⟩ := h.exec_eq_next (i := .idleNoise 0x0D sp) (by rw [hst]; exact byteRow_idle)
    cases hx
    simp [State.withInp, hst]
  · obtain ⟨inp, hx⟩ := h.exec_eq_next (i := .aSync2Bad 0x0D sp) (by rw [hst]; exact byteRow_seenPreambleA1)
    cases hx
    simp
  · obtain ⟨inp, hx⟩ := h.exec_eq_next (i := .bBody 0x0D sp) (by rw [hst]; exact byteRow_bBody)
    rw [exec_bBody_of_next hx]
    simp [State.withInp, hst]
  · obtain ⟨inp, hx⟩ := h.exec_eq_next (i := .cLen1 0x0D sp) (by rw [hst]; exact byteRow_eq ⟨rfl, rfl, rfl, rfl, trivial⟩)
    cases hx
    simp

/-- In these states LF does not end a sentence. -/
theorem ByteStep.shown_ne_termLf (h : ByteStep 0x0A sp s t) (hst : s.st ∈ [St.idle, St.bBody, St.cLen2]) :
    shown t ≠ some (.term .lf) := by
  simp only [List.mem_cons, List.not_mem_nil, or_false] at hst
  rcases hst with hst | hst | hst
  · obtain ⟨inp, hx⟩ := h.exec_eq_next (i := .idleNoise 0x0A sp) (by rw [hst]; exact byteRow_idle)
    cases hx
    nofun
  · obtain ⟨inp, hx⟩ := h.exec_eq_next (i := .bBody 0x0A sp) (by rw [hst]; exact byteRow_bBody)
    rw [exec_bBody_of_next hx]
    nofun
  · obtain ⟨inp, hx⟩ := h.exec_eq_next (i := .cLen2 0x0A sp) (by rw [hst]; exact byteRow_eq ⟨rfl, rfl, rfl, rfl, trivial⟩)
    cases hx
    nofun

/-- The first checksum character is that of the XOR, or the block is back in `IDLE` (R202, R203). -/
theorem ByteStep.of_bCk1 (h : ByteStep b sp s t) (hst : s.st = St.bCk1) :
    (b = Operands.nmeaChar1 s.nx ∧ t.st = St.bCk2 ∧ t.nx = s.nx) ∨ t.st = St.idle := by
  obtain ⟨i, inp, hrow, hx⟩ := h
  rw [hst, byteRow_bCk1] at hrow
  split_ifs at hrow with hb
  all_goals
    cases hrow
    cases hx
  · exact .inl ⟨hb, rfl, rfl⟩
  · exact .inr rfl

/-- The second checksum character is that of the XOR, or the block is back in `IDLE` (R204, R205). -/
theorem ByteStep.of_bCk2 (h : ByteStep b sp s t) (hst : s.st = St.bCk2) :
    b = Operands.nmeaChar2 s.nx ∨ t.st = St.idle := by
  obtain ⟨i, inp, hrow, hx⟩ := h
  rw [hst, byteRow_bCk2] at hrow
  split_ifs at hrow with hb
  all_goals
    cases hrow
    cases hx
  · exact .inl hb
  · exact .inr rfl

end

/-- In `IDLE` and right after a preamble, CR and LF do not end a sentence. -/
theorem shown_ne_termLf_of_runBytes (hst : s.st ∈ St.idle :: preambleStates) {p4 p5 : Span} {rest : List Ports}
    (h : runBytes s [(0x0D, p4), (0x0A, p5)] rest = .next u) : shown u ≠ some (.term .lf) := by
  obtain ⟨v, hcr, h⟩ := byteStep_of_runBytes_cons h
  obtain ⟨w, hlf, h⟩ := byteStep_of_runBytes_cons h
  cases h
  exact hlf.shown_ne_termLf (hcr.st_of_cr hst)

/-- TERM(LF) at the end of the four bytes asks for both characters of the XOR: after a mismatch the block is in `IDLE` with at most
three bytes to come (R203, R205). -/
theorem match_of_shown_termLf (hst : s.st = St.bCk1) {h1 h2 : Byte} {p2 p3 p4 p5 : Span} {rest : List Ports}
    (h : runBytes s [(h1, p2), (h2, p3), (0x0D, p4), (0x0A, p5)] rest = .next u) (hu : shown u = some (.term .lf)) :
    h1 = Operands.nmeaChar1 s.nx ∧ h2 = Operands.nmeaChar2 s.nx := by
  obtain ⟨v, hck1, h⟩ := byteStep_of_runBytes_cons h
  obtain ⟨w, hck2, h⟩ := byteStep_of_runBytes_cons h
  rcases hck1.of_bCk1 hst with ⟨hh1, hst', hnx⟩ | hidle
  · rcases hck2.of_bCk2 hst' with hh2 | hidle
    · exact ⟨hh1, hnx ▸ hh2⟩
    · exact absurd hu (shown_ne_termLf_of_runBytes (by simp [hidle]) h)
  · exact absurd hu (shown_ne_termLf_of_runBytes (hck2.st_of_idle hidle) h)

end

end Sys2Proof.Machine

namespace Sys2Proof.Claims

open Sys2Proof.Machine

/-- Settles O42: the body is buffered and folded up to `*`, by induction over it; then the four bytes complete the sentence with the
characters of the XOR, and after a mismatch too few bytes are left for another end. -/
theorem protocolBSentenceWindow : Obligations.ProtocolBSentenceWindow := by
  intro s rest h1 h2 p0 p1 p2 p3 p4 p5 body hst hwf hbody hroom bytes x start
  have hsentence (evs : List (Byte × Span)) := runBytes_sentence hst hwf p0 p1 body evs rest hbody hroom
  obtain ⟨t, hcode, hnx, -, hrom, hrun⟩ := hsentence [(h1, p2), (h2, p3), (0x0D, p4), (0x0A, p5)]
  have hwf' : t.rom.wf = true := hrom ▸ hwf
  rw [hrun, show x = t.nx from hnx.symm]
  refine ⟨?_, fun u hu => ?_, fun hh1 hh2 => ?_⟩
  · obtain ⟨v, hcode', hnx', hann, -, hrun'⟩ := hsentence []
    rw [List.append_nil] at hrun'
    exact ⟨_, hrun', hcode', hnx'.trans hnx.symm, hann⟩
  · have hmatch : shown u = some (.term .lf) → _ := match_of_shown_termLf hcode hu
    have hend : h1 = Operands.nmeaChar1 t.nx ∧ h2 = Operands.nmeaChar2 t.nx →
        shown u = some (.term .lf) ∧ u.st = St.idle := by
      rintro ⟨hh1, hh2⟩
      obtain ⟨v, hv, hann, hidle⟩ := runBytes_bEnd_of_match hcode hwf' hh1 hh2 p2 p3 p4 p5 rest
      cases hu.symm.trans hv
      exact ⟨congrArg (Option.map AnnotationOf.label) hann, hidle⟩
    exact ⟨⟨hmatch, fun h => (hend h).1⟩, fun h => (hend (hmatch h)).2⟩
  · obtain ⟨u, hu, -⟩ := runBytes_bEnd_of_match hcode hwf' hh1 hh2 p2 p3 p4 p5 rest
    exact ⟨u, hu⟩

end Sys2Proof.Claims
end

section
/-! PROOFS. `FoldCrc` loses no information, so a corrupted byte changes the CRC (rules R109, R232). -/

namespace Sys2Proof.Checksum

open Function (Injective)

/-- Bit 0 of the polynomial is set, so a round keeps the bit that it shifts out (R109). -/
theorem getLsbD_zero_crcRound (c : BitVec 24) : (crcRound c).getLsbD 0 = c.msb := by
  rw [crcRound_eq]
  cases c.msb <;> simp

theorem crcRound_injective : Injective crcRound := by
  intro c d h
  have hmsb : c.msb = d.msb := by rw [← getLsbD_zero_crcRound, h, getLsbD_zero_crcRound]
  have hlow : c <<< 1 = d <<< 1 := by
    rwa [crcRound_eq, crcRound_eq, hmsb, BitVec.xor_left_inj] at h
  simp only [BitVec.msb_eq_decide, decide_eq_decide] at hmsb
  have hdouble := congrArg BitVec.toNat hlow
  simp only [BitVec.toNat_shiftLeft, Nat.shiftLeft_eq] at hdouble
  apply BitVec.eq_of_toNat_eq
  omega

theorem crcFold_injective_crc (b : Byte) : Injective (crcFold · b) := by
  intro c d h
  simp only [crcFold, crcRounds_eq_iterate] at h
  exact (BitVec.xor_left_inj _).mp (crcRound_injective.iterate 8 h)

theorem crcFold_injective_byte (c : BitVec 24) : Injective (crcFold c) := by
  intro a b h
  simp only [crcFold, crcRounds_eq_iterate] at h
  have hbyte := congrArg BitVec.toNat ((BitVec.xor_right_inj _).mp (crcRound_injective.iterate 8 h))
  simp only [BitVec.truncate_eq_setWidth, BitVec.toNat_shiftLeft, BitVec.toNat_setWidth, Nat.shiftLeft_eq] at hbyte
  apply BitVec.eq_of_toNat_eq
  omega

/-- Two CRCs that differ stay different over any further bytes. -/
theorem foldl_crcFold_injective (bs : List Byte) : Injective (bs.foldl crcFold) := by
  induction bs with
  | nil => exact Function.injective_id
  | cons b bs ih => exact ih.comp (crcFold_injective_crc b)

end Sys2Proof.Checksum

namespace Sys2Proof.Claims

/-- Settles O54: the fold is injective in its byte, and the folds that follow are injective in the CRC. -/
theorem oneCorruptedByteChangesTheCrc : Obligations.OneCorruptedByteChangesTheCrc := by
  intro pre post a b hab
  rw [Checksum.crc24q_append, Checksum.crc24q_append]
  exact (Checksum.foldl_crcFold_injective post).ne ((Checksum.crcFold_injective_byte _).ne hab)

end Sys2Proof.Claims
end

section
/-! PROOFS. The rows of protocol C: length, type, subtype, payload and CRC bytes (rules R220 to R231). -/

namespace Sys2Proof.Operands

variable (lenb b : Byte)

/-- The length of protocol C has two bits of the first byte above the second (R221). -/
theorem toNat_lenC : (lenC lenb b).toNat = (lenb.toNat % 4) * 256 + b.toNat := by
  have hhigh : ((lenb.extractLsb' 0 2).zeroExtend 16 <<< 8).toNat = (lenb.toNat % 4) <<< 8 := by
    simp only [BitVec.truncate_eq_setWidth, BitVec.toNat_shiftLeft, BitVec.toNat_setWidth, BitVec.extractLsb'_toNat,
      Nat.shiftLeft_eq, Nat.shiftRight_zero]
    omega
  rw [lenC, BitVec.toNat_or, hhigh, BitVec.toNat_setWidth_of_le (by decide), ← Nat.shiftLeft_add_eq_or_of_lt b.isLt,
    Nat.shiftLeft_eq]

theorem lenC_eq_zero_iff : lenC lenb b = 0 ↔ lenb.toNat % 4 = 0 ∧ b = 0 := by
  have h := toNat_lenC lenb b
  simp [← BitVec.toNat_inj, h]

theorem toNat_typeHigh : (typeHigh b).toNat = b.toNat * 16 := by
  simp only [typeHigh, BitVec.truncate_eq_setWidth, BitVec.toNat_shiftLeft, BitVec.toNat_setWidth, Nat.shiftLeft_eq]
  omega

theorem toNat_typeLow (cType : BitVec 12) : (typeLow cType b).toNat = cType.toNat ||| (b.toNat / 16) := by
  rw [typeLow, BitVec.toNat_or, BitVec.toNat_setWidth_of_le (by decide), hiNibble, BitVec.extractLsb'_toNat,
    Nat.shiftRight_eq_div_pow]
  congr 1
  omega

theorem toNat_subHigh : (subHigh b).toNat = b.toNat % 16 := by
  rw [subHigh, BitVec.toNat_setWidth_of_le (by decide), loNibble, BitVec.extractLsb'_toNat, Nat.shiftRight_zero]

/-- Of the nibble and the byte that come before, the 12 bits of `c_sub` keep the nibble (R33, R224). -/
theorem toNat_subLow (cSub : BitVec 12) : (subLow cSub b).toNat = (cSub.toNat % 16) * 256 + b.toNat := by
  have hhigh : (cSub <<< 8).toNat = (cSub.toNat % 16) <<< 8 := by
    simp only [BitVec.toNat_shiftLeft, Nat.shiftLeft_eq]
    omega
  rw [subLow, BitVec.toNat_or, hhigh, BitVec.toNat_setWidth_of_le (by decide), ← Nat.shiftLeft_add_eq_or_of_lt b.isLt,
    Nat.shiftLeft_eq]

section
variable (crc : BitVec 24)

theorem eq_crcByte1_iff : b = crcByte1 crc ↔ b.toNat = crc.toNat / 65536 := by
  rw [crcByte1, ← BitVec.toNat_inj, BitVec.extractLsb'_toNat, Nat.shiftRight_eq_div_pow, Nat.mod_eq_of_lt (by omega)]

theorem eq_crcByte2_iff : b = crcByte2 crc ↔ b.toNat = crc.toNat / 256 % 256 := by
  rw [crcByte2, ← BitVec.toNat_inj, BitVec.extractLsb'_toNat, Nat.shiftRight_eq_div_pow]

theorem eq_crcByte3_iff : b = crcByte3 crc ↔ b.toNat = crc.toNat % 256 := by
  rw [crcByte3, ← BitVec.toNat_inj, BitVec.extractLsb'_toNat, Nat.shiftRight_zero]

end

end Sys2Proof.Operands

namespace Sys2Proof.Machine

section
variable (b : Byte) (sp : Span) (s : State)

/-- C.TYPE1 in full, on the only payload byte and on the first of several (R222). -/
theorem exec_cType1_eq : exec (.cType1 b sp) s = .next { s with
    st := if s.rem = 1 then St.cCrc1 else St.cType2
    crc := Checksum.crcFold s.crc b
    k := s.k + 1
    rem := s.rem - 1
    fT0 := if s.rem = 1 then s.fT0 else some sp.t0
    cType := Operands.typeHigh b
    ann := if s.rem = 1 then some ⟨.hex b, sp.t0, sp.t1⟩ else none } := by
  simp only [exec, execCType1, State.countPayload_rem, State.foldCrc_rem, State.quiet_rem, sub_eq_zero]
  split <;> rfl

/-- C.SUBTYPE in full (R224). -/
theorem exec_cSubtype_eq : exec (.cSubtype b sp) s = .next { s with
    st := if s.rem = 1 then St.cCrc1 else s.st
    crc := Checksum.crcFold s.crc b
    k := s.k + 1
    rem := s.rem - 1
    cSub := Operands.subLow s.cSub b
    subPend := false
    ann := some ⟨.subtype (Operands.subLow s.cSub b), s.startTime sp, sp.t1⟩ } := by
  simp only [exec, execCSubtype, State.countPayload_rem, State.foldCrc_rem, State.emit_rem, sub_eq_zero]
  split <;> rfl

/-- C.PAYLOAD in full (R225). -/
theorem exec_cPayload_eq : exec (.cPayload b sp) s = .next { s with
    st := if s.rem = 1 then St.cCrc1 else s.st
    crc := Checksum.crcFold s.crc b
    k := s.k + 1
    rem := s.rem - 1
    ann := some ⟨.hex b, sp.t0, sp.t1⟩ } := by
  simp only [exec, execCPayload, State.countPayload_rem, State.foldCrc_rem, State.emit_rem, sub_eq_zero]
  split <;> rfl

theorem typeHasSubtype_iff : typeHasSubtype b s = true ↔
    Operands.typeLow s.cType b ∈ s.subTypes ∧ 1 ≤ (s.rem - 1).toNat := by
  simp [typeHasSubtype]

end

end Sys2Proof.Machine

namespace Sys2Proof.Claims

open Sys2Proof.Machine

section
variable {rev : ModuleRev} {sp : Span} {b : Byte} {r : CondRegs}

theorem byteRow_cLen1 : byteRow St.cLen1 b rev sp r = .ok (.cLen1 b sp) := byteRow_eq ⟨rfl, rfl, rfl, rfl, trivial⟩
theorem byteRow_cLen2 : byteRow St.cLen2 b rev sp r = .ok (.cLen2 b sp) := byteRow_eq ⟨rfl, rfl, rfl, rfl, trivial⟩
theorem byteRow_cType1 : byteRow St.cType1 b rev sp r = .ok (.cType1 b sp) := byteRow_eq ⟨rfl, rfl, rfl, rfl, trivial⟩
theorem byteRow_cType2 : byteRow St.cType2 b rev sp r = .ok (.cType2 b sp) := byteRow_eq ⟨rfl, rfl, rfl, rfl, trivial⟩

theorem byteRow_cPayload :
    byteRow St.cPayload b rev sp r = .ok (if r.subPend = true then .cSubtype b sp else .cPayload b sp) :=
  byteRow_ite (⟨rfl, rfl, rfl, rfl, ·⟩) (⟨rfl, rfl, rfl, rfl, Bool.eq_false_iff.mpr ·⟩)

theorem byteRow_cCrc1 :
    byteRow St.cCrc1 b rev sp r = .ok (if b = Operands.crcByte1 r.crc then .cCrc1Ok b sp else .cCrc1Bad b sp) :=
  byteRow_ite (⟨rfl, rfl, rfl, rfl, ·⟩) (⟨rfl, rfl, rfl, rfl, ·⟩)

theorem byteRow_cCrc2 :
    byteRow St.cCrc2 b rev sp r = .ok (if b = Operands.crcByte2 r.crc then .cCrc2Ok b sp else .cCrc2Bad b sp) :=
  byteRow_ite (⟨rfl, rfl, rfl, rfl, ·⟩) (⟨rfl, rfl, rfl, rfl, ·⟩)

theorem byteRow_cCrc3 :
    byteRow St.cCrc3 b rev sp r = .ok (if b = Operands.crcByte3 r.crc then .cCrc3Ok b sp else .cCrc3Bad b sp) :=
  byteRow_ite (⟨rfl, rfl, rfl, rfl, ·⟩) (⟨rfl, rfl, rfl, rfl, ·⟩)

end

/-- Settles O44: C.LEN1 records the byte and its start; C.LEN2 assembles the length in numbers, and the length is 0 exactly when
its ten bits are. -/
theorem lengthRowsOfProtocolCResult : Obligations.LengthRowsOfProtocolCResult := by
  refine ⟨fun _ _ _ _ => ⟨byteRow_cLen1, byteRow_cLen2⟩, fun s sp b =>
    ⟨rfl, _, rfl, rfl, Operands.toNat_lenC s.lenb b, rfl, rfl, fromStart_startTime s _ sp, ?_, rfl⟩⟩
  simp only [← Operands.lenC_eq_zero_iff]
  rfl

/-- Settles O45: each rule in full, its type bits in numbers; C.TYPE1 branches on the last payload byte, C.TYPE2 on the type. -/
theorem typeRowsResult : Obligations.TypeRowsResult := by
  refine ⟨fun _ _ _ _ => ⟨byteRow_cType1, byteRow_cType2⟩, fun s sp b => ⟨?type1, ?type2⟩⟩
  case type1 =>
    exact ⟨_, exec_cType1_eq b sp s, rfl, Operands.toNat_typeHigh b, rfl, rfl,
      fun hlast => ⟨if_pos hlast, if_pos hlast, if_pos hlast⟩, fun hmore => ⟨if_neg hmore, if_neg hmore, if_neg hmore⟩, rfl⟩
  case type2 =>
    refine ⟨_, execCType2_eq b sp s, rfl, Operands.toNat_typeLow b s.cType, fromStart_startTime s _ sp, rfl, rfl,
      fun hsub => ?_, fun hplain => ?_, if_congr sub_eq_zero rfl rfl, rfl⟩
    · simp [(typeHasSubtype_iff b s).mpr hsub, Operands.toNat_subHigh]
    · simp [Bool.eq_false_iff.mpr (mt (typeHasSubtype_iff b s).mp hplain)]

/-- Settles O46: the row by `sub_pend`, and each rule in full. -/
theorem payloadRowsOfProtocolCResult : Obligations.PayloadRowsOfProtocolCResult :=
  ⟨fun _ _ _ _ => byteRow_cPayload, fun s sp b =>
    ⟨⟨_, exec_cSubtype_eq b sp s, rfl, Operands.toNat_subLow b s.cSub, rfl, fromStart_startTime s _ sp, rfl, rfl, rfl,
      rfl⟩, _, exec_cPayload_eq b sp s, rfl, rfl, rfl, rfl, rfl, rfl⟩⟩

/-- Settles O47: the rows by the byte against its slice of the CRC, read in numbers; a right byte goes on or is `finish`, a wrong
one is `resync`. -/
theorem crcRowsResult : Obligations.CrcRowsResult := by
  refine ⟨fun _ _ b r => ?rows, fun s sp _ => ?results⟩
  case rows =>
    simp only [← Operands.eq_crcByte1_iff, ← Operands.eq_crcByte2_iff, ← Operands.eq_crcByte3_iff]
    exact ⟨byteRow_cCrc1, byteRow_cCrc2, byteRow_cCrc3⟩
  case results =>
    exact ⟨⟨_, rfl, rfl⟩, ⟨_, rfl, resynced_resync rfl sp s⟩, ⟨_, rfl, rfl⟩, ⟨_, rfl, resynced_resync rfl sp s⟩,
      ⟨_, rfl, finished_finish rfl⟩, _, rfl, resynced_resync rfl sp s⟩

end Sys2Proof.Claims
end

section
/-! PROOFS. A protocol C frame from `IDLE` through its payload, and the CRC of its window (rules R220 to R225, R232). -/

namespace Sys2Proof.Machine

open Claims

/-- The states in which a payload byte of protocol C is met (R21, R29). -/
abbrev cPayloadStates : List (BitVec 5) := [St.cType1, St.cType2, St.cPayload]

/-- What every payload row of protocol C does: the byte is folded and counted, and the last one leads to C_CRC1 (R222 to R225). -/
structure CPayloadStep (b : Byte) (s t : State) : Prop where
  crc : t.crc = Checksum.crcFold s.crc b
  rem : t.rem = s.rem - 1
  rom : t.rom = s.rom
  st : ∃ code ∈ cPayloadStates, t.st = if s.rem = 1 then St.cCrc1 else code

/-- Inside a protocol C frame: the bytes `bytes` of the CRC window are folded and `n` payload bytes are left (R220 to R225, R232). -/
structure InCWindow (bytes : List Byte) (n : Nat) (t : State) : Prop where
  st : ∃ code ∈ cPayloadStates, t.st = if n = 0 then St.cCrc1 else code
  crc : t.crc = Checksum.crc24q bytes
  left : t.rem.toNat = n
  wf : t.rom.wf = true

section
variable {s t u : State} {b : Byte} {bytes : List Byte} {n : Nat}

/-- The row that a payload byte selects is a payload row (R222 to R225). -/
theorem exists_cPayloadRow (hst : t.st ∈ cPayloadStates) (b : Byte) (sp : Span) : ∃ i,
    byteRow t.st b t.cfgRev sp t.condRegs = .ok i ∧
      ∀ inp, ∃ u, exec i (t.withInp inp) = .next u ∧ CPayloadStep b t u := by
  simp only [List.mem_cons, List.not_mem_nil, or_false] at hst
  rcases hst with hst | hst | hst
  · exact ⟨_, hst ▸ byteRow_cType1, fun inp => ⟨_, exec_cType1_eq b sp _, rfl, rfl, rfl, St.cType2, by simp, rfl⟩⟩
  · exact ⟨.cType2 b sp, hst ▸ byteRow_cType2, fun inp => ⟨_, execCType2_eq b sp _, rfl, rfl, rfl, St.cPayload, by simp,
      if_congr sub_eq_zero rfl rfl⟩⟩
  · refine ⟨_, hst ▸ byteRow_cPayload, fun inp => ?_⟩
    split
    · exact ⟨_, exec_cSubtype_eq b sp _, rfl, rfl, rfl, t.st, by simp [hst], rfl⟩
    · exact ⟨_, exec_cPayload_eq b sp _, rfl, rfl, rfl, t.st, by simp [hst], rfl⟩

theorem InCWindow.of_payloadStep (ht : InCWindow bytes (n + 1) t) (h : CPayloadStep b t u) :
    InCWindow (bytes ++ [b]) n u := by
  obtain ⟨-, hcrc, hleft, hwf⟩ := ht
  obtain ⟨hcrc', hrem, hrom, code, hcode, hst⟩ := h
  have hlast : t.rem = 1 ↔ n = 0 := by simp [← BitVec.toNat_inj, hleft]
  refine ⟨⟨code, hcode, hst.trans (if_congr hlast rfl rfl)⟩, ?_, ?_, hrom ▸ hwf⟩
  · rw [Checksum.crc24q_concat, ← hcrc, hcrc']
  · rw [hrem]
    bv_omega

/-- The preamble and the length run from `IDLE` into the window (R153, R220, R221). -/
theorem runBytes_cHeader (hst : s.st = St.idle) (hwf : s.rom.wf = true) (l1 l2 : Byte) (p0 p1 p2 : Span)
    (evs : List (Byte × Span)) (rest : List Ports) :
    ∃ t, InCWindow [0xD3, l1, l2] ((l1.toNat % 4) * 256 + l2.toNat) t ∧
      runBytes s ((0xD3, p0) :: (l1, p1) :: (l2, p2) :: evs) rest = runBytes t evs rest := by
  have hidle : byteRow s.st 0xD3 s.cfgRev p0 s.condRegs = .ok (.idlePreambleC p0) := hst ▸ byteRow_idle
  have hlen := Operands.toNat_lenC l1 l2
  have hempty : Operands.lenC l1 l2 = 0 ↔ (l1.toNat % 4) * 256 + l2.toNat = 0 := by simp [← hlen, ← BitVec.toNat_inj]
  refine ⟨_, ?_, Eq.trans (runBytes_cons_of_next hwf hidle rfl) <| Eq.trans (runBytes_cons_of_next hwf byteRow_cLen1 rfl)
    (runBytes_cons_of_next hwf byteRow_cLen2 rfl)⟩
  exact ⟨⟨St.cType1, by simp, if_congr hempty rfl rfl⟩, rfl, hlen, hwf⟩

/-- The payload runs to the end of the window, every byte of it folded (R222 to R225). -/
theorem InCWindow.runBytes_append (payload evs : List (Byte × Span)) (rest : List Ports)
    (ht : InCWindow bytes payload.length t) :
    ∃ u, InCWindow (bytes ++ payload.map (·.1)) 0 u ∧ runBytes t (payload ++ evs) rest = runBytes u evs rest := by
  induction payload generalizing bytes t with
  | nil => exact ⟨t, by simpa using ht, rfl⟩
  | cons e payload ih =>
    obtain ⟨b, sp⟩ := e
    obtain ⟨code, hcode, hst⟩ := ht.st
    have hinside : t.st ∈ cPayloadStates := hst.trans (if_neg (by simp)) ▸ hcode
    obtain ⟨i, hrow, hnext⟩ := exists_cPayloadRow hinside b sp
    obtain ⟨u, hx, hstep⟩ := hnext (byteEvents t.cfgRev (payload ++ evs) ++ rest)
    obtain ⟨v, hv, hrun⟩ := ih (ht.of_payloadStep hstep)
    exact ⟨v, by simpa using hv, (runBytes_cons_of_next ht.wf hrow hx).trans hrun⟩

end

end Sys2Proof.Machine
end

section
/-! PROOFS. What the three CRC bytes decide (rules R226 to R232). -/

namespace Sys2Proof.Operands

/-- Three bytes are the slices of the CRC exactly when they are its value, most significant first (R110). -/
theorem eq_crcBytes_iff (x y z : Byte) (crc : BitVec 24) :
    x = crcByte1 crc ∧ y = crcByte2 crc ∧ z = crcByte3 crc ↔ x.toNat * 65536 + y.toNat * 256 + z.toNat = crc.toNat := by
  rw [eq_crcByte1_iff, eq_crcByte2_iff, eq_crcByte3_iff]
  omega

end Sys2Proof.Operands

namespace Sys2Proof.Machine

open Claims

section
variable {i j : Instr} {s t u : State} {b x y z : Byte} {sp q1 q2 q3 : Span} {rest : List Ports}

/-- With the three slices of the CRC the frame completes (R226, R228, R230). -/
theorem runBytes_crcBytes_of_match (hst : t.st = St.cCrc1) (hwf : t.rom.wf = true) (hx : x = Operands.crcByte1 t.crc)
    (hy : y = Operands.crcByte2 t.crc) (hz : z = Operands.crcByte3 t.crc) (q1 q2 q3 : Span) (rest : List Ports) :
    ∃ u, runBytes t [(x, q1), (y, q2), (z, q3)] rest = .next u ∧ shown u = some (.valid .crc3) := by
  have hrow1 : byteRow t.st x t.cfgRev q1 t.condRegs = .ok (.cCrc1Ok x q1) :=
    hst ▸ byteRow_cCrc1.trans (congrArg _ (if_pos hx))
  have hrow2 {rev : ModuleRev} : byteRow St.cCrc2 y rev q2 t.condRegs = .ok (.cCrc2Ok y q2) :=
    byteRow_cCrc2.trans (congrArg _ (if_pos hy))
  have hrow3 {rev : ModuleRev} : byteRow St.cCrc3 z rev q3 t.condRegs = .ok (.cCrc3Ok z q3) :=
    byteRow_cCrc3.trans (congrArg _ (if_pos hz))
  exact ⟨_, Eq.trans (runBytes_cons_of_next hwf hrow1 rfl) <| Eq.trans (runBytes_cons_of_next hwf hrow2 rfl) <|
    Eq.trans (runBytes_cons_of_next hwf hrow3 rfl) runBytes_nil, rfl⟩

/-- In a state with two rows, the row of the condition that holds ran. -/
theorem ByteStep.exec_of_ite {c : Prop} [Decidable c] (h : ByteStep b sp s t)
    (hrow : byteRow s.st b s.cfgRev sp s.condRegs = .ok (if c then i else j)) :
    (c ∧ ∃ inp, exec i (s.withInp inp) = .next t) ∨ (¬ c ∧ ∃ inp, exec j (s.withInp inp) = .next t) := by
  split_ifs at hrow with hc
  · exact .inl ⟨hc, h.exec_eq_next hrow⟩
  · exact .inr ⟨hc, h.exec_eq_next hrow⟩

/-- In `IDLE` and right after a preamble no byte shows `VALID(CRC_3)`. -/
theorem ByteStep.shown_ne_validCrc3 (h : ByteStep b sp s t) (hst : s.st ∈ St.idle :: preambleStates) :
    shown t ≠ some (.valid .crc3) := by
  simp only [List.mem_cons, List.not_mem_nil, or_false] at hst
  rcases hst with hst | hst | hst | hst
  · obtain ⟨i, inp, hrow, hx⟩ := h
    rw [hst, byteRow_idle] at hrow
    split_ifs at hrow
    all_goals
      cases hrow
      cases hx
      nofun
  · rcases h.exec_of_ite (hst ▸ byteRow_seenPreambleA1) with ⟨-, inp, hx⟩ | ⟨-, inp, hx⟩
    all_goals
      cases hx
      nofun
  · rcases h.exec_of_ite (hst ▸ byteRow_bBody) with ⟨-, inp, hx⟩ | ⟨-, inp, hx⟩
    · cases hx
      nofun
    · rw [exec_bBody_of_next hx]
      nofun
  · obtain ⟨inp, hx⟩ := h.exec_eq_next (hst ▸ byteRow_cLen1)
    cases hx
    nofun

/-- The first CRC byte is its slice, or the block is back in `IDLE` (R226, R227). -/
theorem ByteStep.of_cCrc1 (h : ByteStep b sp s t) (hst : s.st = St.cCrc1) :
    (b = Operands.crcByte1 s.crc ∧ t.st = St.cCrc2 ∧ t.crc = s.crc) ∨ t.st = St.idle := by
  rcases h.exec_of_ite (hst ▸ byteRow_cCrc1) with ⟨hb, inp, hx⟩ | ⟨-, inp, hx⟩ <;> cases hx
  · exact .inl ⟨hb, rfl, rfl⟩
  · exact .inr rfl

/-- The second CRC byte is its slice, or the block is back in `IDLE` (R228, R229). -/
theorem ByteStep.of_cCrc2 (h : ByteStep b sp s t) (hst : s.st = St.cCrc2) :
    (b = Operands.crcByte2 s.crc ∧ t.st = St.cCrc3 ∧ t.crc = s.crc) ∨ t.st = St.idle := by
  rcases h.exec_of_ite (hst ▸ byteRow_cCrc2) with ⟨hb, inp, hx⟩ | ⟨-, inp, hx⟩ <;> cases hx
  · exact .inl ⟨hb, rfl, rfl⟩
  · exact .inr rfl

/-- The third CRC byte leads to `IDLE`, and shows `VALID(CRC_3)` only if it is its slice (R230, R231). -/
theorem ByteStep.of_cCrc3 (h : ByteStep b sp s t) (hst : s.st = St.cCrc3) :
    t.st = St.idle ∧ (shown t = some (.valid .crc3) → b = Operands.crcByte3 s.crc) := by
  rcases h.exec_of_ite (hst ▸ byteRow_cCrc3) with ⟨hb, inp, hx⟩ | ⟨-, inp, hx⟩ <;> cases hx
  · exact ⟨rfl, fun _ => hb⟩
  · exact ⟨rfl, nofun⟩

/-- `VALID(CRC_3)` at the end of the three bytes asks for all three slices: after a mismatch the block is in `IDLE` with at most two
bytes to come (R227, R229, R231). -/
theorem match_of_shown_validCrc3 (hst : s.st = St.cCrc1) (h : runBytes s [(x, q1), (y, q2), (z, q3)] rest = .next u)
    (hu : shown u = some (.valid .crc3)) :
    (x = Operands.crcByte1 s.crc ∧ y = Operands.crcByte2 s.crc ∧ z = Operands.crcByte3 s.crc) ∧ u.st = St.idle := by
  obtain ⟨v1, h1, h⟩ := byteStep_of_runBytes_cons h
  obtain ⟨v2, h2, h⟩ := byteStep_of_runBytes_cons h
  obtain ⟨v3, h3, h⟩ := byteStep_of_runBytes_cons h
  cases h
  replace hu : shown v3 = some (.valid .crc3) := hu
  rcases h1.of_cCrc1 hst with ⟨hx, hst1, hcrc1⟩ | hidle
  · rcases h2.of_cCrc2 hst1 with ⟨hy, hst2, hcrc2⟩ | hidle
    · obtain ⟨hidle, hz⟩ := h3.of_cCrc3 hst2
      rw [hcrc1] at hy hcrc2
      exact ⟨⟨hx, hy, hcrc2 ▸ hz hu⟩, hidle⟩
    · exact absurd hu (h3.shown_ne_validCrc3 (by simp [hidle]))
  · exact absurd hu (h3.shown_ne_validCrc3 (h2.st_of_idle hidle))

end

end Sys2Proof.Machine

namespace Sys2Proof.Claims

open Sys2Proof.Machine

/-- Settles O48: the header enters the CRC window and every payload byte is folded into it, by induction over the payload; then the
three bytes complete the frame with the slices of the CRC, and after a mismatch too few bytes are left for another end. The premise
on `sub_pend` is not used: both rows of C_PAYLOAD fold and count. -/
theorem protocolCFrameWindow : Obligations.ProtocolCFrameWindow := by
  intro s rest l1 l2 x y z p0 p1 p2 q1 q2 q3 payload hst _ hwf hlen body crc
  have hframe (evs : List (Byte × Span)) : ∃ v, v.st = St.cCrc1 ∧ v.crc = crc ∧ v.rom.wf = true ∧
      runBytes s (body ++ evs) rest = runBytes v evs rest := by
    obtain ⟨t, ht, hheader⟩ := runBytes_cHeader hst hwf l1 l2 p0 p1 p2 (payload ++ evs) rest
    obtain ⟨v, ⟨⟨_, -, hst'⟩, hcrc, -, hwf'⟩, hpayload⟩ := InCWindow.runBytes_append payload evs rest (hlen ▸ ht)
    exact ⟨v, hst', hcrc, hwf', hheader.trans hpayload⟩
  obtain ⟨t, hcode, hcrc, hwf', hrun⟩ := hframe [(x, q1), (y, q2), (z, q3)]
  rw [hrun, ← hcrc, ← Operands.eq_crcBytes_iff]
  have hend : x = Operands.crcByte1 t.crc ∧ y = Operands.crcByte2 t.crc ∧ z = Operands.crcByte3 t.crc →
      ∃ u, runBytes t [(x, q1), (y, q2), (z, q3)] rest = .next u ∧ shown u = some (.valid .crc3) :=
    fun ⟨hx, hy, hz⟩ => runBytes_crcBytes_of_match hcode hwf' hx hy hz q1 q2 q3 rest
  refine ⟨?_, fun u hu => ⟨⟨fun h => (match_of_shown_validCrc3 hcode hu h).1, fun hmatch => ?_⟩,
    fun h => (match_of_shown_validCrc3 hcode hu h).2⟩, fun hmatch => ?_⟩
  · obtain ⟨v, hcode', hcrc', -, hrun'⟩ := hframe []
    rw [List.append_nil] at hrun'
    exact ⟨_, hrun', hcode', hcrc'.trans hcrc.symm⟩
  · obtain ⟨v, hv, hshown⟩ := hend hmatch
    cases hu.symm.trans hv
    exact hshown
  · obtain ⟨u, hu, -⟩ := hend hmatch
    exact ⟨u, hu⟩

end Sys2Proof.Claims
end

section
/-! PROOFS. The number on `err_code` and the annotation port (rules R70, R250). -/

namespace Sys2Proof.Machine

/-- The code a number stands for (R250). -/
def ErrCode.ofCode (n : BitVec 4) : Option ErrCode :=
  [ErrCode.sync2, .ckA, .ckB, .nmeaCk1, .nmeaCk2, .termCr, .termLf, .crc1, .crc2, .crc3, .abort][n.toNat - 1]?

theorem ErrCode.ofCode_code (c : ErrCode) : ofCode c.code = some c := by cases c <;> rfl

theorem ErrCode.code_injective : Function.Injective ErrCode.code := fun c d h =>
  Option.some.inj ((ofCode_code c).symm.trans ((congrArg ofCode h).trans (ofCode_code d)))

theorem ErrCode.code_bounds (c : ErrCode) : 1 ≤ c.code.toNat ∧ c.code.toNat ≤ 11 := by cases c <;> decide

theorem ErrCode.code_ne_zero (c : ErrCode) : c.code ≠ 0 := fun h => by
  have hpos := c.code_bounds.1
  simp [h] at hpos

section
variable {s : State}

theorem State.errCode_of_invalid {c : ErrCode} {ta te : TS} (h : s.ann = some ⟨.invalid c, ta, te⟩) : s.errCode = c.code := by
  simp [State.errCode, h]

theorem State.errCode_of_not_invalid (h : ∀ c ta te, s.ann ≠ some ⟨.invalid c, ta, te⟩) : s.errCode = 0 := by
  unfold State.errCode
  split
  · exact absurd ‹_› (h _ _ _)
  · rfl

end

end Sys2Proof.Machine

namespace Sys2Proof.Claims

open Sys2Proof.Machine

/-- Settles O25: the port reads the code's number, and no code has the number 0. -/
theorem errorCodePortReportsInvalid : Obligations.ErrorCodePortReportsInvalid := by
  refine ⟨fun s c ⟨_, _, h⟩ => State.errCode_of_invalid h, fun s => ⟨fun h0 c _ _ h => ?_, State.errCode_of_not_invalid⟩,
    ErrCode.code_bounds, fun _ _ h => ErrCode.code_injective h⟩
  exact c.code_ne_zero ((State.errCode_of_invalid h).symm.trans h0)

end Sys2Proof.Claims
end

section
/-! PROOFS. With an unbounded buffer the step goes on from every state of the invariant, but for a payload byte that enters a
field in its middle (rules R126, R256, R258). -/

namespace Sys2Proof.Machine

section
variable {kind : BitVec 2} {st : BitVec 5} {b : Byte} {rev : ModuleRev} {sp : Span} {r : CondRegs} {i : Instr} {s : State}

/-- In a legal state code every event without reset carries an instruction (R87). -/
theorem exists_carries_formWord (hst : st.toNat ≤ 21) : ∃ i, Carries ⟨false, rev, formWord kind st b, sp⟩ r i := by
  have hrow := exists_formWord_row (kind := kind) false rev b sp r fun _ => hst
  obtain ⟨i, hi⟩ := decode_isOk hrow (bit13_formWord _ _ _)
  exact ⟨i, (decode_eq_ok_iff rfl).mp hi⟩

/-- A.PAYLOAD is carried by the byte events of its state only (R176). -/
theorem kind_of_carries_aPayload {c : Byte} {sp' : Span}
    (h : Carries ⟨false, rev, formWord kind st b, sp⟩ r (.aPayload c sp')) : kind = kindByte ∧ st = St.aPayload := by
  obtain ⟨hkind, hst, -⟩ := packWord_inj.mp h.word
  exact ⟨hkind.symm, hst.symm⟩

/-- RESERVED_KIND is carried by the events of a reserved kind only (R159). -/
theorem kind_of_carries_reservedKind {low : BitVec 15} {sp' : Span}
    (h : Carries ⟨false, rev, formWord kind st b, sp⟩ r (.reservedKind low sp')) : 2 ≤ kind.toNat := by
  have hword : formWord kind st b = 1#1 ++ low := h.word.symm
  have htop : kind &&& 2#2 = 2#2 := by
    refine packWord_eq_top_append_iff.mp (hword.trans ?_)
    rw [← formWord, hword, BitVec.extractLsb'_append_eq_right]
  exact (by decide : ∀ k : BitVec 2, k &&& 2#2 = 2#2 → 2 ≤ k.toNat) kind htop

/-- With an unbounded buffer two rows can refuse: A.PAYLOAD in the middle of a field, and RESERVED_KIND (R126, R159). -/
theorem exec_refused_of_unbounded (hcap : s.textCap = none) {x : Refusal} (h : exec i s = .refused x) :
    (∃ b sp, i = .aPayload b sp ∧ x = .planMidEntry) ∨ ∃ low sp, i = .reservedKind low sp := by
  cases i
  case aPayload b sp =>
    obtain ⟨d, e, -, ⟨hmid, -⟩ | ⟨-, -, -, hfull⟩⟩ := exec_aPayload_refused_iff.mp h
    · exact .inl ⟨b, sp, rfl, hmid⟩
    · cases hcap.symm.trans hfull
  case bBody => cases (exec_bBody_of_room _ (by simp [hcap])).symm.trans h
  case reservedKind low sp => exact .inr ⟨low, sp, rfl⟩
  all_goals cases h

/-- An event of one of the two kinds runs a row that goes on, or is a payload byte refused with PlanMidEntry (R258). -/
theorem exec_next_or_midEntry (hcap : s.textCap = none) (hkind : kind.toNat < 2)
    (h : Carries ⟨false, rev, formWord kind st b, sp⟩ r i) :
    (∃ t, exec i s = .next t) ∨ (st = St.aPayload ∧ kind = kindByte ∧ exec i s = .refused .planMidEntry) := by
  cases hx : exec i s with
  | next t => exact .inl ⟨t, rfl⟩
  | fault f => exact absurd hx (exec_ne_fault i s f)
  | refused x =>
    rcases exec_refused_of_unbounded hcap hx with ⟨c, sp', rfl, rfl⟩ | ⟨low, sp', rfl⟩
    · obtain ⟨hbyte, hst⟩ := kind_of_carries_aPayload h
      exact .inr ⟨hst, hbyte, rfl⟩
    · exact absurd hkind (Nat.not_lt.mpr (kind_of_carries_reservedKind h))

end

end Sys2Proof.Machine

namespace Sys2Proof.Claims

open Sys2Proof.Machine

/-- Settles O58: reset and a step without an event go on; an event carries a row in the legal state code of the invariant, and with
an unbounded buffer only the middle of a field stops it. -/
theorem blockNeverStopsButForMidEntry : Obligations.BlockNeverStopsButForMidEntry := by
  intro s p rest hs hwf hcap hinp hport
  obtain ⟨hreset, hrun⟩ := stepRunsTheSelectedRow s p rest hwf hinp
  cases hrst : p.rst with
  | true => exact .inl ⟨_, hreset hrst⟩
  | false =>
    obtain ⟨hrev, hevent⟩ := hport.resolve_left (by simp [hrst])
    obtain ⟨hquiet, hrow⟩ := hrun hrst hrev
    cases hvalid : p.evValid with
    | false => exact .inl ⟨_, hquiet hvalid⟩
    | true =>
      have hkind := hevent.resolve_left (by simp [hvalid])
      obtain ⟨i, hi⟩ := exists_carries_formWord hs.legal
      rw [hrow hvalid i ((decode_eq_ok_iff rfl).mpr hi)]
      rcases exec_next_or_midEntry (s := { s with inp := rest }) hcap hkind hi with hnext | ⟨hst, hbyte, hmid⟩
      · exact .inl hnext
      · exact .inr ⟨hst, rfl, hbyte, hmid⟩

end Sys2Proof.Claims
end

section
/-! PROOFS. Reset and the revision in force, which is fixed from one reset to the next (rules R280, R283). -/

namespace Sys2Proof.Machine

/-- Without reset a `cfg_rev` port that differs from the revision in force is refused before row selection (R283). -/
theorem present_of_revChange {p : Ports} {s : State} (hrst : p.rst = false) (hrev : p.cfgRev ≠ s.cfgRev) :
    present p s = .refuse .cfgRevChange := by
  simp [present, hrst, hrev]

/-- The row of an event without reset is not RESET's. -/
theorem resetOf_of_decode {e : EventWord} {r : CondRegs} {i : Instr} (hrst : e.rst = false) (h : decode e r = .ok i) :
    resetOf i = none :=
  ((decode_eq_ok_iff hrst).mp h).noReset

/-- RESET's row puts the revision of the port in force (R280). -/
theorem exec_cfgRev_of_decode_rst {e : EventWord} {r : CondRegs} {i : Instr} {s t : State} (hrst : e.rst = true)
    (hd : decode e r = .ok i) (h : exec i s = .next t) : t.cfgRev = e.rev := by
  cases (decode_rst e r hrst).symm.trans hd
  cases h
  rfl

end Sys2Proof.Machine

namespace Sys2Proof.Claims

open Sys2Proof.Machine

/-- Settles O12: a step without an event changes only the ports, a row without reset keeps the revision, and RESET's takes the
port's; a change without reset is refused where the sample is presented. -/
theorem revisionChangesOnlyAtReset : Obligations.RevisionChangesOnlyAtReset := by
  refine ⟨fun s t h => ?_, fun s p rest hwf hinp hrst hrev => ?_⟩
  · rcases step_cases h with ⟨u, hf, rfl⟩ | ⟨i, u, hf, hx⟩
    · rcases fetch_noEvent hf with ⟨-, rfl⟩ | ⟨p, rest, -, -, -, -, rfl⟩ <;> exact .inl rfl
    · obtain ⟨p, rest, -, hinp, rfl, -, hd⟩ := fetch_run hf
      cases hrst : p.rst with
      | false => exact .inl (exec_cfgRev (s := { s with inp := rest }) (resetOf_of_decode hrst hd) hx)
      | true => exact .inr ⟨p, rest, hinp, hrst, exec_cfgRev_of_decode_rst hrst hd hx⟩
  · rw [step_of_inp_cons hwf hinp, present_of_revChange (s := { s with inp := rest }) hrst hrev]
    rfl

/-- Settles O10: reset decides row selection, RESET is `ClearFrame` and `IDLE` on a quiet port, and no other rule writes the
revision. -/
theorem resetClearsEveryRegister : Obligations.ResetClearsEveryRegister :=
  ⟨fun _ _ _ _ => decode_rst _ _ rfl, fun _ s =>
    ⟨_, rfl, frameCleared_clearFrame s.quiet, rfl, rfl, rfl, rfl, rfl, rfl, rfl, rfl, fun _ _ => exec_cfgRev⟩⟩

end Sys2Proof.Claims
end
